-- ==== Sys2Proof/Word.lean ====
section
/-! DEFINITION. The word types of the EG12 and their plainest arithmetic. -/

namespace Sys2Proof

/-- A byte of the desk bus, the service link or a head link (11 R193). -/
abbrev Byte := BitVec 8

/-- An item number (00 Item numbers and tag codes): an integer, valid from 1 to `maxItem`. -/
abbrev Item := Nat

/-- A hall time or a deadline, in milliseconds of hall time (00 Hall time). -/
abbrev Time := Nat

/-- The largest item number, 2 to the power 40 less one (01 R1). -/
def maxItem : Nat := 1099511627775

/-- An item number is valid when it lies between 1 and the largest item (01 R1). -/
def validItem (i : Item) : Bool := decide (1 ≤ i) && decide (i ≤ maxItem)

/-- Hall time is held in 48 bits (00 Hall time). -/
def hallModulus : Nat := 281474976710656

/-- One step up that stops at a bound (the tallies, miss counts, tenure count and exits). -/
def satSucc (bound n : Nat) : Nat := min bound (n + 1)

end Sys2Proof
end

