-- ==== Sys2Proof/Syntax.lean ====
section
/-! DEFINITION. The commands of the EG12: one constructor for each row of spec/opcode_table.json.

The table's rows have no fields.
A command that brings something from outside carries it (a byte, a message, an address, the strap values), a command
that is about one of several like things names it (a lane, a head, a group, a desk, a port, an item, an alarm number),
and everything else a command needs it finds in the state (log entry 1). -/

namespace Sys2Proof

/-- Lanes are numbered 0 to 7 (00 Lanes, heads and groups). -/
abbrev LaneId := Fin 8
/-- Band groups are numbered 0 to 3. -/
abbrev GroupId := Fin 4
/-- The fifteen desks; desk `d` is source `d + 1` (00 Sources, windows and columns). -/
abbrev DeskId := Fin 15

/-- The position of a head in its lane (04 R67). -/
inductive HeadPos where
  | inner
  | outer
  deriving DecidableEq, Repr

/-- The two ports that take requests (00 Ports). -/
inductive PortId where
  /-- the desk bus port -/
  | desk
  /-- the service link port -/
  | link
  deriving DecidableEq, Repr

/-- The direction bit of a desk bus address byte (09 R165). -/
inductive Direction where
  | write
  | read
  deriving DecidableEq, Repr

/-- The commands, in the order of spec/opcode_table.json. -/
inductive Instr where
  | powerOnReset (address : BitVec 2) (rate : BitVec 2)
  | restart
  | hold (port : PortId)
  | issue (port : PortId)
  | confirm (port : PortId)
  | cancel (port : PortId)
  | confirmBatch (port : PortId)
  | cancelBatch (port : PortId)
  | discharge (port : PortId)
  | query (port : PortId)
  | load
  | walk
  | clearTable
  | standing
  | endStanding
  | ackLane (port : PortId)
  | restartLane (port : PortId)
  | setHall
  | setWindow
  | setRights
  | setLane
  | enableLane
  | disableLane
  | readLane
  | readStatus
  | clearCounts
  | readAlarms
  | ackAlarm
  | clearLog
  | readNotices
  | badRequest (port : PortId)
  | holdClaim
  | issueClaim
  | confirmClaim
  | cancelClaim
  | confirmBatchClaim
  | cancelBatchClaim
  | dischargeClaim
  | queryClaim
  | loadClaim
  | walkClaim
  | clearTableClaim
  | judge
  | dueTimeReached
  | expiryClaim
  | standingEnd (desk : DeskId)
  | soundingEnd (number : BitVec 16)
  | identReply (lane : LaneId) (head : HeadPos) (message : List Byte)
  | roundReport (lane : LaneId) (head : HeadPos) (message : List Byte)
  | probeReport (lane : LaneId) (head : HeadPos) (message : List Byte)
  | headMessageDiscarded (lane : LaneId) (head : HeadPos) (message : List Byte)
  | roundTimeout (lane : LaneId) (head : HeadPos)
  | abort (lane : LaneId) (head : HeadPos)
  | guardEnd (group : GroupId)
  | cycleReport (lane : LaneId)
  | passage (lane : LaneId)
  | verdict (lane : LaneId)
  | judgeAnswer
  | changeNotice
  | graceEnd (item : Item)
  | probeResult (lane : LaneId)
  | passageRemovalReport (lane : LaneId)
  | deskAddressByte (address : BitVec 7) (direction : Direction)
  | deskWriteByte (byte : Byte)
  | deskRepeatedStartWrite (address : BitVec 7) (direction : Direction)
  | deskStopCondition
  | deskReplyByte
  | deskReplyDeclined
  | serviceByte (byte : Byte)
  | frameTimeout
  | replySent
  deriving DecidableEq, Repr

end Sys2Proof
end

