-- ==== Sys2Proof/Decode.lean ====
section
/-! DEFINITION. The command that a word spells by the bits of spec/opcode_table.json.

No row of the table gives bits, so no word spells a command (log entry 23). -/

namespace Sys2Proof

/-- No row of the opcode table has bits: the answer is none for every word. -/
def decodeTableWord (_nbits _w : Nat) : Option Instr := none

end Sys2Proof
end

