-- ==== Sys2Proof/Config.lean ====
section
/-! DEFINITION. The fixed sizes of the EG12, and the one value that its manual leaves open. -/

namespace Sys2Proof.Config

/-- Clearance entries the table holds (02 R28). -/
def tableCapacity : Nat := 4096
/-- PENDING entries the table holds (02 R28). -/
def pendingCapacity : Nat := 256
/-- PENDING entries one source may have (02 R28). -/
def pendingPerSource : Nat := 32
/-- Entries of a WALK answer (02 R32). -/
def walkLimit : Nat := 16
/-- Count at which a batch series ends (03 R59). -/
def batchLimit : Nat := 255
/-- Passages in a passage list (06 R107). -/
def passageCapacity : Nat := 24
/-- Entries in a probe queue (05 R98). -/
def probeCapacity : Nat := 4
/-- Records in the alarm log (08 R151). -/
def logCapacity : Nat := 64
/-- Records returned by one READ ALARMS (08 R157). -/
def readAlarmsLimit : Nat := 8
/-- Source, kind and the longest desk body, 45 bytes (09 R167, 11 R197). -/
def deskBufferBytes : Nat := 47
/-- Bytes of the service link's receive buffer (10 R179). -/
def receiveBufferBytes : Nat := 1024
/-- The longest length L that a service frame may give (11 R197). -/
def longestCommand : Nat := 226
/-- Silence, in ms, after which a service frame is cut short (10 R180). -/
def frameSilence : Nat := 50
/-- The target address before the straps are added (09 R165). -/
def deskBaseAddress : BitVec 7 := 0x2C

/-- FREE VALUE. The two alarm number bytes of a judgement record in READ LANE whose alarm is absent:
11 R193 and R198 give that field no encoding for "absent" (log entry 10).
It is applied to the counter `freeReads` of State, and nothing fixes what it gives. -/
opaque freeAlarmNumber : Nat → BitVec 16

end Sys2Proof.Config
end

