-- ==== Sys2Proof/Machine/State.lean ====
section
/-! DEFINITION. The state of the EG12 as plain data, the reasons a step could stop, and the state after power-on reset.

Every piece of state carries the rule that names it.
The fields that are the model's own are `pending` (log entry 1), `freeReads` (log entry 10) and the `sent` of each head (log entry 8). -/

namespace Sys2Proof.Machine

/-- Reasons a step stops with a fault: the spec names no condition that stops the EG12, so there is none. -/
inductive Fault where
  deriving DecidableEq, Repr

/-- Reasons a command has no meaning. -/
inductive Refusal where
  /-- Raised by `exec` for a command that has no meaning yet; safe, since nothing is claimed of it. -/
  | notModelled (mnemonic : String)
  deriving DecidableEq, Repr

/-! ## Sources, windows, rights (01) -/

/-- The originator of a request: source 0, the service link, or a desk (01 section 1.4). -/
inductive Source where
  | link
  | desk (d : DeskId)
  deriving DecidableEq, Repr

/-- The classes of stock, in the order that numbers them (01 R3, 11 R193). -/
inductive ItemClass where
  | lending
  | reference
  | restricted
  | exempt
  | staff
  deriving DecidableEq, Repr

/-- The rights, in the order that numbers them (01 R10). -/
inductive Right where
  | none
  | issue
  | discharge
  | both
  deriving DecidableEq, Repr

/-- A column of the rights map: a window index, or 16, the default column (01 R4, R10). -/
abbrev Column := Fin 17

/-- A stock window (01 R3); it renumbers exactly when its target is present. -/
structure StockWindow where
  enabled : Bool
  base : Item
  k : Nat
  cls : ItemClass
  target : Option Item
  deriving DecidableEq, Repr

/-- A standing record while standing is SUPERVISOR (01 R12); NONE is its absence. -/
structure Standing where
  staffItem : Item
  ends : Time
  deriving DecidableEq, Repr

/-- The eight hall settings (10 R183), in the units in which they are written. -/
structure HallSettings where
  hallMark : Nat
  defaultClass : ItemClass
  allowance : Nat
  leeway : Nat
  pendingLimit : Nat
  standingTime : Nat
  lateWindow : Nat
  guardGap : Nat
  deriving DecidableEq, Repr

/-- A tag code: a library mark and an item number (01 section 1.1). -/
structure TagCode where
  mark : Nat
  item : Item
  deriving DecidableEq, Repr

/-! ## The clearance table and its port (02, 03) -/

/-- The stages of a clearance entry (02 R18). -/
inductive Stage where
  | pending
  | cleared
  | departed
  deriving DecidableEq, Repr

/-- A set of lanes, bit n for lane n (11 R193); as a field it is absent or not empty (02 R18). -/
abbrev LaneSet := BitVec 8

/-- A clearance entry (02 R18). -/
structure Entry where
  item : Item
  stage : Stage
  source : Source
  batch : Option Nat
  lanes : Option LaneSet
  allowance : Nat
  created : Time
  due : Time
  exits : Nat
  lastLane : Option LaneId
  deriving DecidableEq, Repr

/-- The clearance table (02 R18, R28, R42); entries rise strictly by item. -/
structure ClearanceTable where
  entries : List Entry
  pendingCounts : Vector Nat 16
  lapsed : BitVec 32
  expired : BitVec 32
  evicted : BitVec 32
  deriving DecidableEq, Repr

/-- The requests that are worked item by item (03 R46). -/
inductive ItemKind where
  | hold
  | issue
  | confirm
  | cancel
  | discharge
  | query
  | load
  deriving DecidableEq, Repr

/-- The two batch requests (03 R59). -/
inductive BatchKind where
  | confirm
  | cancel
  deriving DecidableEq, Repr

/-- The options that a claim carries (03 R44), each present or absent. -/
structure ClaimOptions where
  batch : Option Nat
  lanes : Option LaneSet
  allowance : Option Nat
  deriving DecidableEq, Repr

/-- A claim of a request port (02 R32). -/
inductive Claim where
  /-- one operation on one entry, named by its normalised item -/
  | item (k : ItemKind) (item : Item) (source : Source) (options : ClaimOptions)
  /-- one claim of a series: the requester, the selection, the batch and the cursor -/
  | batch (k : BatchKind) (requester : Source) (selected : Source) (batch : Nat) (cursor : Item)
  | walk (cursor : Item)
  | clearTable
  deriving DecidableEq, Repr

/-- The claimants of the table port, in ring order (02 R30). -/
inductive Claimant where
  | desk
  | link
  | judge
  | expiry
  deriving DecidableEq, Repr

/-- The table port (02 R30): the last claimant served, and at most one waiting claim of each claimant. -/
structure TablePort where
  lastServed : Claimant
  desk : Option Claim
  /-- the waiting desk claim belongs to a request that a soft restart stopped (02 R43, 03 R66) -/
  deskOrphan : Bool
  /-- a desk claim that is offered when the one before it has been answered (02 R30, log entry 19) -/
  deskDeferred : Option Claim
  link : Option Claim
  judge : Option (Item × LaneId)
  expiry : Option Item
  deriving DecidableEq, Repr

/-- The result codes, in the order that numbers them (03 R64). -/
inductive Code where
  | done
  | renewed
  | settled
  | alreadyCleared
  | heldElsewhere
  | notOwner
  | noEntry
  | noRight
  | noStanding
  | referenceStock
  | notStock
  | pendingFull
  | tableFull
  | badItem
  | badValue
  | busy
  | badRequest
  | badFrame
  deriving DecidableEq, Repr

/-- The result of one item (03 R64, R57, R58); a QUERY that finds an entry carries it (R53). -/
structure ItemResult where
  code : Code
  atGate : Bool
  alarmOpen : Bool
  entry : Option Entry
  deriving DecidableEq, Repr

/-! ## Requests and commands as their bodies give them (11 R197) -/

/-- An item of a request as it arrives; a LOAD gives each item its own allowance and lanes (03 R44). -/
structure RawItem where
  item : Item
  allowance : Nat
  lanes : LaneSet
  deriving DecidableEq, Repr

/-- The options of an item request as they arrive, 0 for absent (11 R193). -/
structure RawOptions where
  batch : Nat
  lanes : LaneSet
  allowance : Nat
  deriving DecidableEq, Repr

/-- The values of a SET HALL as they arrive (10 R183). -/
structure RawHall where
  hallMark : Nat
  defaultClass : Nat
  allowance : Nat
  leeway : Nat
  pendingLimit : Nat
  standingTime : Nat
  lateWindow : Nat
  guardGap : Nat
  deriving DecidableEq, Repr

/-- The values of a SET WINDOW as they arrive (11 R197). -/
structure RawWindow where
  window : Nat
  enabled : Nat
  base : Nat
  k : Nat
  cls : Nat
  renumber : Nat
  target : Nat
  deriving DecidableEq, Repr

/-- The values of a SET LANE as they arrive (11 R197). -/
structure RawLane where
  lane : Nat
  bandGroup : Nat
  sweepMode : Nat
  halfCycle : Nat
  roundTime : Nat
  roundTimeout : Nat
  retryLimit : Nat
  tenure : Nat
  confirmationCount : Nat
  missLimit : Nat
  grace : Nat
  verify : Nat
  outerOnly : Nat
  faultPolicy : Nat
  soundingTime : Nat
  deriving DecidableEq, Repr

/-- A request or command as a port finds it in a frame (10 R181, 09 R168). -/
inductive Request where
  | items (k : ItemKind) (options : RawOptions) (items : List RawItem)
  /-- the named source is absent from a desk (03 R44) -/
  | batch (k : BatchKind) (batch : Nat) (selected : Option Nat)
  | walk (cursor : Item)
  | clearTable
  | standing (item : Item)
  | endStanding
  | ackLane (lane : Nat)
  | restartLane (lane : Nat)
  | setHall (v : RawHall)
  | setWindow (v : RawWindow)
  | setRights (desk column right : Nat)
  | setLane (v : RawLane)
  | enableLane (lane : Nat)
  | disableLane (lane : Nat)
  | readLane (lane : Nat)
  | readStatus
  | clearCounts
  | readAlarms (after : Option Nat)
  | ackAlarm (number : Nat)
  | clearLog
  | readNotices
  | restart
  /-- refused whole: the kind is unknown or missing, or the body does not match it (09 R168, 11 R200) -/
  | bad
  deriving DecidableEq, Repr

/-- A port's record of the request in work (03 R45, R66). -/
inductive Work where
  | idle
  /-- taken and not yet worked: its source, its kind byte and what the body gave -/
  | taken (source : Source) (kind : Byte) (r : Request)
  /-- an item's claim has been offered; the items after it, and the results so far, in order -/
  | items (k : ItemKind) (source : Source) (options : ClaimOptions) (rest : List RawItem) (results : List ItemResult)
  /-- a claim of a batch series has been offered; the count so far (03 R59) -/
  | batch (k : BatchKind) (count : Nat)
  | walk
  | clearTable
  deriving DecidableEq, Repr

/-! ## Heads, lanes, band groups (04, 05) -/

/-- The states of a head (04 R75). -/
inductive HeadState where
  | unknown
  | ready
  | busy
  | faulted
  deriving DecidableEq, Repr

/-- The messages the part sends to a head (04 R67). -/
inductive HeadCommand where
  | ident
  | round (seq : BitVec 8) (dwell : Nat)
  | probe (seq : BitVec 8) (code : TagCode)
  | abort (seq : BitVec 8)
  deriving DecidableEq, Repr

/-- A command outstanding on a head, and the hall time of its latest attempt (04 R67, R71). -/
structure Attempt where
  command : HeadCommand
  sentAt : Time
  deriving DecidableEq, Repr

/-- What the sweeper keeps of one head (04 R69, R73 to R75, R77). -/
structure HeadUnit where
  state : HeadState
  seq : BitVec 8
  outstanding : Option Attempt
  failures : Nat
  retries : BitVec 16
  rollover : Bool
  stale : BitVec 32
  badChecks : BitVec 32
  /-- an ABORT has been decided and not yet sent (04 R77, log entry 7) -/
  abortOwed : Bool
  /-- the messages sent on the pair since power-on reset, the first one first (log entry 8) -/
  sent : List HeadCommand
  deriving DecidableEq, Repr

/-- The states of a lane (04 R78). -/
inductive LaneState where
  | disabled
  | starting
  | inService
  | single
  | stopped
  deriving DecidableEq, Repr

/-- Sweep modes (05 R86). -/
inductive SweepMode where
  | paired
  | alternate
  deriving DecidableEq, Repr

/-- Half-cycle policies (05 R86, R102). -/
inductive HalfCyclePolicy where
  | continue
  | restart
  deriving DecidableEq, Repr

/-- Outer-only policies (06 R107, R121). -/
inductive OuterOnlyPolicy where
  | ignore
  | judge
  deriving DecidableEq, Repr

/-- Fault policies (04 R78). -/
inductive FaultPolicy where
  | single
  | stop
  deriving DecidableEq, Repr

/-- The fourteen settings of a lane (10 R185), in the units in which they are written. -/
structure LaneSettings where
  bandGroup : GroupId
  sweepMode : SweepMode
  halfCycle : HalfCyclePolicy
  roundTime : Nat
  roundTimeout : Nat
  retryLimit : Nat
  tenure : Nat
  confirmationCount : Nat
  missLimit : Nat
  grace : Nat
  verify : Bool
  outerOnly : OuterOnlyPolicy
  faultPolicy : FaultPolicy
  soundingTime : Nat
  deriving DecidableEq, Repr

/-- A half: one head's contribution to a cycle (05 R88). -/
structure Half where
  head : HeadPos
  codes : List TagCode
  lossy : Bool
  endTime : Time
  deriving DecidableEq, Repr

/-- The form of a cycle or a probe (05 R89, R100). -/
inductive Form where
  | paired
  | alternate
  /-- naming the working head -/
  | single (working : HeadPos)
  deriving DecidableEq, Repr

/-- A cycle report (05 R92); its lane is the lane that holds it. -/
structure CycleReport where
  form : Form
  inner : Option Half
  outer : Option Half
  deriving DecidableEq, Repr

/-- What a sweeper has in flight (05 R87, R99). -/
inductive Flight where
  | nothing
  /-- a step of rounds, with the halves of a PAIRED step made so far -/
  | rounds (form : Form) (inner outer : Option Half)
  /-- the probe at the head of the queue, and whether a head it was sent to has faulted (R100) -/
  | probe (form : Form) (faulted : Bool)
  deriving DecidableEq, Repr

/-- An entry of a probe queue (05 R98). -/
structure ProbeEntry where
  code : TagCode
  item : Item
  deriving DecidableEq, Repr

/-- Probe results (05 R100). -/
inductive ProbeOutcome where
  | seen
  | notSeen
  | failed
  deriving DecidableEq, Repr

/-- A probe result reported to the judgement unit (05 R101); its lane is the lane that holds it. -/
structure ProbeResult where
  code : TagCode
  item : Item
  outcome : ProbeOutcome
  /-- the mark of the awaited record that it answers: live, or ignored (07 R132, log entry 37) -/
  live : Bool
  deriving DecidableEq, Repr

/-- A record of an awaited probe list (07 R132). -/
structure AwaitedProbe where
  item : Item
  live : Bool
  deriving DecidableEq, Repr

/-- The condition of a band arbiter, with its holder (05 R93). -/
inductive BandCondition where
  | free
  | guarding
  | held (holder : LaneId)
  deriving DecidableEq, Repr

/-- A band arbiter (05 R93); its waiting lanes are the `ask` fields of its member lanes. -/
structure BandArbiter where
  band : BandCondition
  tenureCount : Nat
  guardEnd : Time
  lastHolder : Option LaneId
  deriving DecidableEq, Repr

/-! ## Passages and judgements (06, 07) -/

/-- Which heads saw an item in its creating cycle (06 R106). -/
inductive FirstHead where
  | inner
  | outer
  | both
  deriving DecidableEq, Repr

/-- Passage stages (06 R106). -/
inductive PassageStage where
  | tracking
  | inner
  | outer
  | sent
  | settled
  | entered
  deriving DecidableEq, Repr

/-- Verdicts (06 R106). -/
inductive Verdict where
  | pass
  | exempt
  | alarm
  | stray
  | shadow
  deriving DecidableEq, Repr

/-- A passage (06 R106). -/
structure Passage where
  item : Item
  raw : Option Item
  window : Column
  cls : ItemClass
  firstSeen : Time
  firstHead : FirstHead
  innerTally : Nat
  outerTally : Nat
  innerConfirmed : Option Time
  outerConfirmed : Option Time
  missCount : Nat
  stage : PassageStage
  verdict : Option Verdict
  deriving DecidableEq, Repr

/-- What a tracker hands to the judgement unit (06 R118, R122). -/
inductive TrackerMessage where
  | leaving (item : Item) (raw : Option Item) (cls : ItemClass)
  | removed (item : Item)
  deriving DecidableEq, Repr

/-- Why an exit is not yet passed (07 R125). -/
inductive Reason where
  | absent
  | pending
  | reference
  | wrongLane
  deriving DecidableEq, Repr

/-- Judgement stages (07 R125). -/
inductive JudgementStage where
  | asking
  | heldAbsent
  | heldPending
  | verifying
  | done
  deriving DecidableEq, Repr

/-- A judgement (07 R125). -/
structure Judgement where
  item : Item
  owner : LaneId
  raw : Option Item
  cls : ItemClass
  reason : Option Reason
  stage : JudgementStage
  graceEnd : Option Time
  verdict : Option Verdict
  alarmNumber : Option (BitVec 16)
  deriving DecidableEq, Repr

/-- Answers of a JUDGE claim (02 R37). -/
inductive JudgeAnswer where
  | pass
  | wrongLane
  | pending
  | absent
  deriving DecidableEq, Repr

/-- Kinds of change notice (02 R39). -/
inductive ChangeKind where
  | cleared
  | pending
  | pendingGone
  deriving DecidableEq, Repr

/-- What the table sends to the judgement unit (02 R40, 07 R133). -/
inductive TableMessage where
  | answer (item : Item) (a : JudgeAnswer)
  | notice (item : Item) (k : ChangeKind)
  deriving DecidableEq, Repr

/-- The judgement unit (07 R125, R133). -/
structure JudgementUnit where
  entries : List Judgement
  asking : List Item
  /-- the JUDGE claim that has been taken and not yet answered, and whether its answer is live -/
  answer : Option (Item × Bool)
  inbox : List TableMessage
  deriving DecidableEq, Repr

/-! ## Alarm log, sounders, lamps (08) -/

/-- Alarm classes (08 R150). -/
inductive AlarmClass where
  | unissued
  | lapsed
  | reference
  | wrongLane
  deriving DecidableEq, Repr

/-- Alarm states (08 R150). -/
inductive AlarmState where
  | opened
  | acknowledged
  | settled
  deriving DecidableEq, Repr

/-- An alarm record (08 R150). -/
structure AlarmRecord where
  number : BitVec 16
  lane : LaneId
  item : Item
  raw : Option Item
  cls : AlarmClass
  unverified : Bool
  raised : Time
  soundingEnd : Time
  state : AlarmState
  closedAt : Option Time
  closedBy : Option Source
  deriving DecidableEq, Repr

/-- The alarm log (08 R151, R152, R163), oldest record first. -/
structure AlarmLog where
  records : List AlarmRecord
  counter : BitVec 16
  overwrites : BitVec 32
  deriving DecidableEq, Repr

/-- Lamp colours (08 R161). -/
inductive Lamp where
  | off
  | green
  | amber
  | red
  deriving DecidableEq, Repr

/-! ## Lanes -/

/-- The counters of a lane, in the order of 11 R199 (05 R104, 06 R123, 07 R149). -/
structure LaneCounts where
  cycles : BitVec 32
  abortedRounds : BitVec 32
  lossyRounds : BitVec 32
  entered : BitVec 32
  foreignCodes : BitVec 32
  crowdDrops : BitVec 32
  passes : BitVec 32
  exemptPasses : BitVec 32
  alarms : BitVec 32
  strays : BitVec 32
  shadows : BitVec 32
  dropped : BitVec 32
  deriving DecidableEq, Repr

/-- The blocks of one lane: its sweeper, its tracker, the judgement unit's record of its probes, and its outputs. -/
structure Lane where
  state : LaneState
  settings : LaneSettings
  inner : HeadUnit
  outer : HeadUnit
  flight : Flight
  /-- the half-cycle buffer (05 R90) -/
  buffer : Option Half
  /-- an ask for the band stands (05 R94) -/
  ask : Bool
  /-- the probe queue (05 R98) -/
  probes : List ProbeEntry
  /-- cycle reports not yet taken (05 R92) -/
  reports : List CycleReport
  /-- the passage list (06 R107) -/
  passages : List Passage
  /-- passages and removals handed over and not yet taken (06 R118, R122) -/
  toJudge : List TrackerMessage
  /-- verdicts returned and not yet taken (06 R119) -/
  verdicts : List (Item × Verdict)
  /-- probe results reported and not yet taken (05 R101) -/
  results : List ProbeResult
  /-- the awaited probe list (07 R132) -/
  awaited : List AwaitedProbe
  counts : LaneCounts
  /-- the sounder line (08 R159) -/
  sounder : Bool
  /-- the lamp drive (08 R161) -/
  lamp : Lamp
  deriving DecidableEq, Repr

/-! ## The two ports (09, 10) -/

/-- States of the desk bus port (09 R166). -/
inductive DeskState where
  | idle
  | receiving
  | working
  | replying
  | spent
  | ignoring
  deriving DecidableEq, Repr

/-- The desk bus port (09 R166). -/
structure DeskPort where
  state : DeskState
  address : BitVec 7
  /-- source, kind and body bytes, in order -/
  buffer : List Byte
  overlong : Bool
  work : Work
  reply : List Byte
  supplied : Nat
  abandoned : BitVec 32
  /-- the acknowledge bit the port drove for the last byte it was written -/
  acked : Bool
  /-- the byte on the data line, all ones when it is released -/
  dataOut : Byte
  /-- the port holds the bus clock low (09 R168) -/
  clockHeld : Bool
  deriving DecidableEq, Repr

/-- States of the service link port (10 R179). -/
inductive LinkState where
  | hunting
  | receiving
  | working
  | sending
  deriving DecidableEq, Repr

/-- The notice set (10 R190). -/
structure NoticeSet where
  alarm : Bool
  fault : Bool
  logOverwrite : Bool
  crowd : Bool
  tableFull : Bool
  deriving DecidableEq, Repr

/-- The service link port (10 R179). -/
structure LinkPort where
  state : LinkState
  /-- the rate straps (10 R178) -/
  rate : BitVec 2
  /-- the receive buffer -/
  buffer : List Byte
  /-- the bytes of the frame after its start byte (log entry 40 for where no frame is being received) -/
  frame : List Byte
  /-- when the port last took a byte (10 R180, log entry 14) -/
  quietSince : Time
  work : Work
  reply : List Byte
  sent : Nat
  notices : NoticeSet
  /-- the NOTICE line is asserted -/
  noticeLine : Bool
  badFrames : BitVec 32
  lostBytes : BitVec 32
  deriving DecidableEq, Repr

/-! ## The whole part -/

/-- The state of the EG12. -/
structure State where
  /-- hall time (00 Hall time) -/
  hallTime : Time
  hall : HallSettings
  windows : Vector StockWindow 16
  rights : Vector (Vector Right 17) 15
  standing : Vector (Option Standing) 15
  table : ClearanceTable
  port : TablePort
  lanes : Vector Lane 8
  bands : Vector BandArbiter 4
  judge : JudgementUnit
  log : AlarmLog
  desk : DeskPort
  link : LinkPort
  /-- the model's own counter, from which a free value is made fresh (log entry 10) -/
  freeReads : Nat
  /-- the model's own queue: the commands that wait, the next one first (log entry 1) -/
  pending : List Instr
  deriving DecidableEq, Repr

/-! ## Power-on reset -/

/-- The hall settings after power-on reset (10 R183). -/
def HallSettings.reset : HallSettings :=
  { hallMark := 1, defaultClass := .lending, allowance := 30, leeway := 5, pendingLimit := 20, standingTime := 10,
    lateWindow := 60, guardGap := 5 }

/-- A stock window after power-on reset (01 R3). -/
def StockWindow.reset : StockWindow :=
  { enabled := false, base := 0, k := 0, cls := .lending, target := none }

/-- The clearance table after power-on reset (02 R43). -/
def ClearanceTable.reset : ClearanceTable :=
  { entries := [], pendingCounts := Vector.replicate 16 0, lapsed := 0, expired := 0, evicted := 0 }

/-- The table port after power-on reset (02 R43). -/
def TablePort.reset : TablePort :=
  { lastServed := .expiry, desk := none, deskOrphan := false, deskDeferred := none, link := none, judge := none,
    expiry := none }

/-- A head after power-on reset (04 R85). -/
def HeadUnit.reset : HeadUnit :=
  { state := .unknown, seq := 0, outstanding := none, failures := 0, retries := 0, rollover := false, stale := 0,
    badChecks := 0, abortOwed := false, sent := [] }

/-- The settings of a lane after power-on reset (10 R185), but for the band group, which is the lane's own. -/
def LaneSettings.reset (g : GroupId) : LaneSettings :=
  { bandGroup := g, sweepMode := .alternate, halfCycle := .continue, roundTime := 40, roundTimeout := 100, retryLimit := 2,
    tenure := 4, confirmationCount := 2, missLimit := 4, grace := 1500, verify := true, outerOnly := .ignore,
    faultPolicy := .single, soundingTime := 10 }

/-- Every counter of a lane at 0 (05 R104, 06 R123, 07 R149). -/
def LaneCounts.reset : LaneCounts :=
  { cycles := 0, abortedRounds := 0, lossyRounds := 0, entered := 0, foreignCodes := 0, crowdDrops := 0, passes := 0,
    exemptPasses := 0, alarms := 0, strays := 0, shadows := 0, dropped := 0 }

/-- A lane after power-on reset (04 R85, 05 R105, 06 R124, 07 R147, 08 R164), in band group `g`. -/
def Lane.reset (g : GroupId) : Lane :=
  { state := .disabled, settings := LaneSettings.reset g, inner := HeadUnit.reset, outer := HeadUnit.reset,
    flight := .nothing, buffer := none, ask := false, probes := [], reports := [], passages := [], toJudge := [],
    verdicts := [], results := [], awaited := [], counts := LaneCounts.reset, sounder := false, lamp := .off }

/-- A band arbiter after power-on reset (05 R93). -/
def BandArbiter.reset : BandArbiter := { band := .free, tenureCount := 0, guardEnd := 0, lastHolder := none }

/-- The judgement unit after power-on reset (07 R147). -/
def JudgementUnit.reset : JudgementUnit := { entries := [], asking := [], answer := none, inbox := [] }

/-- The alarm log after power-on reset (08 R164). -/
def AlarmLog.reset : AlarmLog := { records := [], counter := 0, overwrites := 0 }

/-- The desk bus port after power-on reset with the given address straps (09 R165, R177, log entry 15). -/
def DeskPort.reset (straps : BitVec 2) : DeskPort :=
  { state := .idle, address := Config.deskBaseAddress + straps.setWidth 7, buffer := [], overlong := false, work := .idle,
    reply := [], supplied := 0, abandoned := 0, acked := false, dataOut := 0xFF, clockHeld := false }

/-- No notice is present (10 R190). -/
def NoticeSet.empty : NoticeSet :=
  { alarm := false, fault := false, logOverwrite := false, crowd := false, tableFull := false }

/-- The service link port after power-on reset with the given rate straps (10 R178, R192). -/
def LinkPort.reset (straps : BitVec 2) : LinkPort :=
  { state := .hunting, rate := straps, buffer := [], frame := [], quietSince := 0, work := .idle, reply := [], sent := 0,
    notices := NoticeSet.empty, noticeLine := false, badFrames := 0, lostBytes := 0 }

/-- The part after power-on reset with the given straps; the band group of lane n is n divided by 2 (05 R86). -/
def State.afterPowerOn (addressStraps rateStraps : BitVec 2) : State :=
  { hallTime := 0
    hall := HallSettings.reset
    windows := Vector.replicate 16 StockWindow.reset
    rights := Vector.replicate 15 (Vector.replicate 17 Right.none)
    standing := Vector.replicate 15 none
    table := ClearanceTable.reset
    port := TablePort.reset
    lanes := #v[Lane.reset 0, Lane.reset 0, Lane.reset 1, Lane.reset 1, Lane.reset 2, Lane.reset 2, Lane.reset 3, Lane.reset 3]
    bands := Vector.replicate 4 BandArbiter.reset
    judge := JudgementUnit.reset
    log := AlarmLog.reset
    desk := DeskPort.reset addressStraps
    link := LinkPort.reset rateStraps
    freeReads := 0
    pending := [] }

/-- The part right after power-on reset, with every strap at 0 (log entry 9). -/
def State.reset : State := State.afterPowerOn 0 0

end Sys2Proof.Machine
end

