-- ==== Sys2Proof/Machine/Ops.lean ====
section
/-! DEFINITION. The named operations over the state: one home for each piece of state, reached through these. -/

namespace Sys2Proof.Machine

/-- What a command answers. -/
abbrev StepOutcome := Host.Outcome State Fault Refusal

/-- The lanes in ascending number. -/
def allLanes : List LaneId := [0, 1, 2, 3, 4, 5, 6, 7]

/-- The band groups in ascending number. -/
def allGroups : List GroupId := [0, 1, 2, 3]

/-- The desks in ascending source number. -/
def allDesks : List DeskId := [0, 1, 2, 3, 4, 5, 6, 7, 8, 9, 10, 11, 12, 13, 14]

/-- The other head of a lane. -/
def otherHead : HeadPos → HeadPos
  | .inner => .outer
  | .outer => .inner

/-- The number of a source: 0 for the service link, 1 to 15 for the desks (01 section 1.4). -/
def Source.number : Source → Nat
  | .link => 0
  | .desk d => d.val + 1

/-- The place of a source among the sixteen pending counts (02 R28). -/
def Source.index : Source → Fin 16
  | .link => 0
  | .desk d => d.succ

/-- The source that a number from 0 to 15 names. -/
def Source.ofNumber (n : Nat) : Option Source :=
  if n = 0 then some .link
  else if h : n - 1 < 15 then some (.desk ⟨n - 1, h⟩) else none

/-- The lane that a number names, if it is 0 to 7. -/
def laneOfNumber (n : Nat) : Option LaneId := if h : n < 8 then some ⟨n, h⟩ else none

/-- Minutes of hall time in milliseconds (00 Numbers and units). -/
def minutes (n : Nat) : Time := 60000 * n

/-- Seconds of hall time in milliseconds. -/
def seconds (n : Nat) : Time := 1000 * n

/-! ## Lanes, heads and band arbiters -/

namespace State

/-- Lane `l`. -/
def lane (s : State) (l : LaneId) : Lane := s.lanes[l]

/-- The state with lane `l` replaced. -/
def setLane (s : State) (l : LaneId) (x : Lane) : State := { s with lanes := s.lanes.set l x }

/-- The state with lane `l` changed by `f`. -/
def modLane (s : State) (l : LaneId) (f : Lane → Lane) : State := s.setLane l (f (s.lane l))

/-- The band arbiter of group `g`. -/
def arbiter (s : State) (g : GroupId) : BandArbiter := s.bands[g]

/-- The state with the arbiter of group `g` replaced. -/
def setBand (s : State) (g : GroupId) (x : BandArbiter) : State := { s with bands := s.bands.set g x }

/-- The band group that lane `l` is in (05 R86). -/
def groupOf (s : State) (l : LaneId) : GroupId := (s.lane l).settings.bandGroup

/-- Lane `l` holds the band of its group (05 R93). -/
def holds (s : State) (l : LaneId) : Bool := (s.arbiter (s.groupOf l)).band == .held l

end State

/-- The head of a lane at a position. -/
def Lane.head (x : Lane) : HeadPos → HeadUnit
  | .inner => x.inner
  | .outer => x.outer

/-- A lane with the head at a position replaced. -/
def Lane.setHead (x : Lane) (h : HeadPos) (u : HeadUnit) : Lane :=
  match h with
  | .inner => { x with inner := u }
  | .outer => { x with outer := u }

/-- The state with one head changed by `f`. -/
def State.modHead (s : State) (l : LaneId) (h : HeadPos) (f : HeadUnit → HeadUnit) : State :=
  s.modLane l fun x => x.setHead h (f (x.head h))

/-- The state with the counters of lane `l` changed by `f`. -/
def State.modCounts (s : State) (l : LaneId) (f : LaneCounts → LaneCounts) : State :=
  s.modLane l fun x => { x with counts := f x.counts }

/-- A head is a working head when its state is READY or BUSY (04 R75). -/
def HeadUnit.working (u : HeadUnit) : Bool := u.state == .ready || u.state == .busy

/-- The number awaited from a head, with the kind of report awaited: true for a ROUND REPORT (04 R69). -/
def HeadUnit.awaited (u : HeadUnit) : Option (Bool × BitVec 8) :=
  match u.outstanding with
  | some ⟨.round q _, _⟩ => some (true, q)
  | some ⟨.probe q _, _⟩ => some (false, q)
  | _ => none

/-- A ROUND is outstanding on the head. -/
def HeadUnit.roundOut (u : HeadUnit) : Bool :=
  match u.outstanding with
  | some ⟨.round _ _, _⟩ => true
  | _ => false

/-- A PROBE is outstanding on the head. -/
def HeadUnit.probeOut (u : HeadUnit) : Bool :=
  match u.outstanding with
  | some ⟨.probe _ _, _⟩ => true
  | _ => false

/-- An IDENT is outstanding on the head. -/
def HeadUnit.identOut (u : HeadUnit) : Bool :=
  match u.outstanding with
  | some ⟨.ident, _⟩ => true
  | _ => false

/-! ## Notices -/

/-- The notice kinds, in the order that numbers them (10 R190). -/
inductive Notice where
  | alarm
  | fault
  | logOverwrite
  | crowd
  | tableFull
  deriving DecidableEq, Repr

/-- A notice kind becomes present; one already present stays present (10 R190). -/
def NoticeSet.add (n : NoticeSet) : Notice → NoticeSet
  | .alarm => { n with alarm := true }
  | .fault => { n with fault := true }
  | .logOverwrite => { n with logOverwrite := true }
  | .crowd => { n with crowd := true }
  | .tableFull => { n with tableFull := true }

/-- A block raises a notice: the kind is present and the NOTICE line is asserted (10 R190). -/
def State.raise (s : State) (n : Notice) : State :=
  { s with link := { s.link with notices := s.link.notices.add n, noticeLine := true } }

/-! ## The clearance table -/

/-- The entries with `e` in its place, replacing an entry of the same item; the order by item is kept. -/
def insertEntry (e : Entry) : List Entry → List Entry
  | [] => [e]
  | x :: xs => if e.item < x.item then e :: x :: xs else if e.item = x.item then e :: xs else x :: insertEntry e xs

namespace State

/-- The entry of an item (02 R18). -/
def findEntry (s : State) (i : Item) : Option Entry := s.table.entries.find? fun e => e.item == i

/-- The table with an entry written. -/
def putEntry (s : State) (e : Entry) : State := { s with table := { s.table with entries := insertEntry e s.table.entries } }

/-- The table without the entry of an item. -/
def dropEntry (s : State) (i : Item) : State :=
  { s with table := { s.table with entries := s.table.entries.filter fun e => e.item != i } }

/-- The pending count of a source (02 R28). -/
def pendingCount (s : State) (src : Source) : Nat := s.table.pendingCounts[src.index]

/-- The pending count of a source changed. -/
def setPendingCount (s : State) (src : Source) (n : Nat) : State :=
  { s with table := { s.table with pendingCounts := s.table.pendingCounts.set src.index n } }

/-- The pending count of a source rises by one (02 R28). -/
def raisePending (s : State) (src : Source) : State := s.setPendingCount src (s.pendingCount src + 1)

/-- The pending count of a source falls by one (02 R28). -/
def lowerPending (s : State) (src : Source) : State := s.setPendingCount src (s.pendingCount src - 1)

/-- A change notice is sent to the judgement unit, after every answer and notice already on its way (02 R40). -/
def notify (s : State) (i : Item) (k : ChangeKind) : State :=
  { s with judge := { s.judge with inbox := s.judge.inbox ++ [.notice i k] } }

/-! ## The ports -/

/-- The record of the request in work at a port. -/
def workOf (s : State) : PortId → Work
  | .desk => s.desk.work
  | .link => s.link.work

/-- The state with that record replaced. -/
def setWork (s : State) (p : PortId) (w : Work) : State :=
  match p with
  | .desk => { s with desk := { s.desk with work := w } }
  | .link => { s with link := { s.link with work := w } }

end State

end Sys2Proof.Machine
end

