-- ==== Sys2Proof/Machine/Flags.lean ====
section
/-! DEFINITION. Flags and lines: the two flags of an item's result (03 R57, R58), and the sounder and lamp of each lane
(08 R159, R161). -/

namespace Sys2Proof.Machine

/-- A judgement in this stage holds its item at a gate, and lights its lane AMBER (03 R58, 07 R148). -/
def JudgementStage.held : JudgementStage → Bool
  | .heldAbsent | .heldPending | .verifying => true
  | .asking | .done => false

/-- A record in this state still stands (03 R57). -/
def AlarmState.standsOpen : AlarmState → Bool
  | .opened | .acknowledged => true
  | .settled => false

namespace State

/-- AT_GATE: the judgement list holds the item in HELD_ABSENT, HELD_PENDING or VERIFYING (03 R58). -/
def atGate (s : State) (i : Item) : Bool := s.judge.entries.any fun j => j.item == i && j.stage.held

/-- ALARM_OPEN: the alarm log holds a record of the item in OPEN or ACKNOWLEDGED (03 R57). -/
def alarmOpen (s : State) (i : Item) : Bool := s.log.records.any fun r => r.item == i && r.state.standsOpen

/-- The sounder of a lane sounds: the lane is not DISABLED and an OPEN record of it is short of its sounding end (08 R159). -/
def sounds (s : State) (l : LaneId) : Bool :=
  (s.lane l).state != .disabled
    && s.log.records.any fun r => r.lane == l && r.state == .opened && decide (s.hallTime < r.soundingEnd)

/-- The lane owns a judgement that lights it AMBER (07 R148). -/
def holdsExit (s : State) (l : LaneId) : Bool := s.judge.entries.any fun j => j.owner == l && j.stage.held

/-- The colour of a lane's lamp: the first of the four conditions that applies (08 R161). -/
def lampOf (s : State) (l : LaneId) : Lamp :=
  match (s.lane l).state with
  | .disabled => .off
  | .starting | .single | .stopped => if s.sounds l then .red else .amber
  | .inService => if s.sounds l then .red else if s.holdsExit l then .amber else .green

/-- The sounder line and the lamp drive of one lane are set to what the lane shows. -/
def driveLane (s : State) (l : LaneId) : State :=
  let sounder := s.sounds l
  let lamp := s.lampOf l
  s.modLane l fun x => { x with sounder := sounder, lamp := lamp }

/-- The outputs of every lane are driven, as the end of a step that could change them (08 R161). -/
def drive (s : State) : State := allLanes.foldl driveLane s

end State

/-- The two lines of a lamp, asserted or released (08 R161). -/
def Lamp.lines : Lamp → Bool × Bool
  | .off => (false, false)
  | .green => (true, false)
  | .amber => (false, true)
  | .red => (true, true)

end Sys2Proof.Machine
end

