-- ==== Sys2Proof/Machine/Alarms.lean ====
section
/-! DEFINITION. Operations of the alarm log (08): numbering, raising, settling, acknowledging, reading and clearing. -/

namespace Sys2Proof.Machine

/-- The alarm class that a judgement's reason gives (07 R143).
A judgement that is verified has a reason; for one that has none, which no run reaches, the class is a choice of the
model (log entry 24). -/
def alarmClassOf : Option Reason → AlarmClass
  | some .absent => .unissued
  | some .pending => .lapsed
  | some .reference => .reference
  | some .wrongLane => .wrongLane
  | none => .unissued

/-- The first number, from `n` upward and wrapping, that no record holds; `fuel` bounds the search (08 R152). -/
def freeNumber (records : List AlarmRecord) : Nat → BitVec 16 → BitVec 16
  | 0, n => n
  | fuel + 1, n => if records.any fun r => r.number == n then freeNumber records fuel (n + 1) else n

/-- The list without its first record that satisfies a test. -/
def dropFirst (test : AlarmRecord → Bool) : List AlarmRecord → List AlarmRecord
  | [] => []
  | r :: rs => if test r then rs else r :: dropFirst test rs

/-- What a record being raised is made of (07 R143). -/
structure Raising where
  lane : LaneId
  item : Item
  raw : Option Item
  cls : AlarmClass
  unverified : Bool
  deriving DecidableEq, Repr

namespace State

/-- The state with the records of the log replaced. -/
def setRecords (s : State) (rs : List AlarmRecord) : State := { s with log := { s.log with records := rs } }

/-- Room for one record: in a full log the oldest record that is not OPEN leaves, or else the oldest, which is OPEN; that
raises LOG_OVERWRITE and is counted (08 R153 step 1). -/
def makeLogRoom (s : State) : State :=
  if s.log.records.length < Config.logCapacity then s
  else if s.log.records.any fun r => r.state != .opened then
    s.setRecords (dropFirst (fun r => r.state != .opened) s.log.records)
  else
    ({ s with log := { s.log with records := s.log.records.drop 1, overwrites := s.log.overwrites + 1 } }).raise .logOverwrite

/-- The number that the log gives next (08 R152). -/
def nextNumber (s : State) : BitVec 16 := freeNumber s.log.records Config.logCapacity s.log.counter

/-- The log makes a record of an alarm; its number is `nextNumber` of the log with room made (08 R153). -/
def raiseAlarm (s : State) (a : Raising) : State :=
  let s' := s.makeLogRoom
  let number := s'.nextNumber
  let record : AlarmRecord :=
    { number := number, lane := a.lane, item := a.item, raw := a.raw, cls := a.cls, unverified := a.unverified,
      raised := s.hallTime, soundingEnd := s.hallTime + seconds (s.lane a.lane).settings.soundingTime, state := .opened,
      closedAt := none, closedBy := none }
  ({ s' with log := { s'.log with records := s'.log.records ++ [record], counter := number + 1 } }).raise .alarm

/-- A record leaves OPEN by acknowledgement (08 R154, R155). -/
def acknowledged (now : Time) (src : Source) (r : AlarmRecord) : AlarmRecord :=
  { r with state := .acknowledged, closedAt := some now, closedBy := some src }

/-- ACK LANE at the log: every OPEN record of the lane becomes ACKNOWLEDGED (08 R155). -/
def ackLaneRecords (s : State) (l : LaneId) (src : Source) : State :=
  s.setRecords (s.log.records.map fun r => if r.lane == l && r.state == .opened then acknowledged s.hallTime src r else r)

/-- The count of records that ACK LANE acknowledges (08 R155). -/
def openRecordsOf (s : State) (l : LaneId) : Nat := s.log.records.countP fun r => r.lane == l && r.state == .opened

/-- A record meets the settling test for an item (03 R54). -/
def settles (s : State) (i : Item) (r : AlarmRecord) : Bool :=
  r.item == i && (r.cls == .unissued || r.cls == .lapsed) && r.state.standsOpen && decide (0 < s.hall.lateWindow)
    && decide (s.hallTime ≤ r.raised + seconds s.hall.lateWindow)

/-- The record that a claim on an item settles: the newest that meets the test (03 R54). -/
def settling (s : State) (i : Item) : Option AlarmRecord := (s.log.records.filter (s.settles i)).getLast?

/-- The record of a number becomes SETTLED (08 R156). -/
def settleRecord (s : State) (number : BitVec 16) : State :=
  s.setRecords (s.log.records.map fun r =>
    if r.number == number then { r with state := .settled, closedAt := some s.hallTime, closedBy := none } else r)

/-- The records that lie after the one with a number, when the log holds one (08 R157). -/
def recordsAfter (number : Nat) : List AlarmRecord → Option (List AlarmRecord)
  | [] => none
  | r :: rs => if r.number.toNat = number then some rs else recordsAfter number rs

/-- The records that a READ ALARMS returns, or none when no record has the number it names (08 R157). -/
def readAlarms (s : State) (after : Option Nat) : Option (List AlarmRecord) :=
  match after with
  | none => some (s.log.records.take Config.readAlarmsLimit)
  | some n => (recordsAfter n s.log.records).map fun rs => rs.take Config.readAlarmsLimit

/-- CLEAR LOG at the log: the OPEN records stay, in their order (08 R158). -/
def clearClosed (s : State) : State := s.setRecords (s.log.records.filter fun r => r.state == .opened)

/-- A soft restart silences every sounder: later sounding ends of OPEN records move to the restart time (08 R160). -/
def silenceRecords (s : State) : State :=
  s.setRecords (s.log.records.map fun r =>
    if r.state == .opened && decide (s.hallTime < r.soundingEnd) then { r with soundingEnd := s.hallTime } else r)

end State

end Sys2Proof.Machine
end

