-- ==== Sys2Proof/Machine/Band.lean ====
section
/-! DEFINITION. Operations of the lane sweepers and the band arbiters (04, 05): sending, aborting, rounds, probes, asks,
grants, releases and the holder's decision. -/

namespace Sys2Proof.Machine

/-- The ABORT that a head is owed is sent, with the head's sequence number as it stands (04 R77). -/
def HeadUnit.sendOwed (u : HeadUnit) : HeadUnit :=
  if u.abortOwed then { u with abortOwed := false, sent := u.sent ++ [.abort u.seq] } else u

/-- A message is put on the pair of a head, after the ABORT that is owed there if there is one (04 R67, R77, log entries 7
and 8). -/
def HeadUnit.put (message : HeadCommand) (u : HeadUnit) : HeadUnit :=
  { u.sendOwed with sent := u.sendOwed.sent ++ [message] }

/-- A command with a number is sent to a head: its sequence number advances, the head is BUSY and the number is awaited
(04 R69, R75). -/
def HeadUnit.send (now : Time) (command : BitVec 8 → HeadCommand) (u : HeadUnit) : HeadUnit :=
  { u.put (command (u.seq + 1)) with
      state := .busy, seq := u.seq + 1, outstanding := some { command := command (u.seq + 1), sentAt := now } }

/-- IDENT is sent to a head that its lane starts afresh (04 R76, R82). -/
def HeadUnit.ident (now : Time) (u : HeadUnit) : HeadUnit :=
  { u.put .ident with state := .unknown, failures := 0, outstanding := some { command := .ident, sentAt := now } }

/-- An outstanding ROUND or PROBE is aborted: its number is awaited no more, the head is READY and an ABORT is owed
(04 R77). -/
def HeadUnit.abortCommand (u : HeadUnit) : HeadUnit :=
  if u.roundOut || u.probeOut then { u with state := .ready, outstanding := none, abortOwed := true } else u

/-- A head's command ends by a taken reply (04 R70, R73). -/
def HeadUnit.answered (u : HeadUnit) : HeadUnit := { u with state := .ready, outstanding := none, failures := 0 }

/-- A retry: the same command again, with a new wait, counted (04 R72, R74). -/
def HeadUnit.retry (now : Time) (u : HeadUnit) : HeadUnit :=
  { u with outstanding := u.outstanding.map fun a => { a with sentAt := now },
           retries := u.retries + 1, rollover := u.rollover || u.retries == 0xFFFF#16,
           sent := u.sent ++ (u.outstanding.map fun a => a.command).toList }

/-- A head becomes FAULTED by failed attempts: it is sent one ABORT with its sequence number in the same step (04 R73). -/
def HeadUnit.fault (u : HeadUnit) : HeadUnit :=
  { u with state := .faulted, outstanding := none, abortOwed := false, sent := u.sent ++ [.abort u.seq] }

/-- A head of a lane that leaves service (04 R83). -/
def HeadUnit.leave (u : HeadUnit) : HeadUnit := { u with state := .unknown, outstanding := none, failures := 0 }

/-- The working head of a lane that has one (04 R75, R80). -/
def Lane.workingHead (x : Lane) : HeadPos := if x.inner.working then .inner else .outer

/-- A working head of the lane owes an ABORT, so a probe waits (04 R77, 05 R99). -/
def Lane.abortWaits (x : Lane) : Bool := (x.inner.working && x.inner.abortOwed) || (x.outer.working && x.outer.abortOwed)

/-- The ROUND commands that are outstanding on a lane (05 R103). -/
def Lane.roundsOut (x : Lane) : Nat := (if x.inner.roundOut then 1 else 0) + (if x.outer.roundOut then 1 else 0)

/-- Every ROUND and PROBE outstanding on the lane's heads is aborted; each ROUND counts (04 R77, 05 R103, R104). -/
def Lane.abortAll (x : Lane) : Lane :=
  { x with inner := x.inner.abortCommand, outer := x.outer.abortCommand,
           counts := { x.counts with abortedRounds := x.counts.abortedRounds + BitVec.ofNat 32 x.roundsOut } }

/-- A lane runs rounds and probes while IN_SERVICE or SINGLE (05 R87). -/
def LaneState.hasWork : LaneState → Bool
  | .inService | .single => true
  | .disabled | .starting | .stopped => false

/-- What a broken ALTERNATE cycle keeps of its buffered half (05 R102). -/
def Lane.breakCycle (x : Lane) : Lane :=
  match x.settings.halfCycle with
  | .continue => x
  | .restart => { x with buffer := none }

/-- The form a cycle or probe takes from the lane (05 R89, R100). -/
def Lane.form (x : Lane) : Form :=
  match x.state, x.settings.sweepMode with
  | .inService, .paired => .paired
  | .inService, .alternate => .alternate
  | _, _ => .single x.workingHead

/-- The half of a round that its head's fault ended (05 R88). -/
def lossyHalf (h : HeadPos) (now : Time) : Half := { head := h, codes := [], lossy := true, endTime := now }

/-- The result of an entry of the probe queue, with the mark of the awaited record that it answers (05 R101, 07 R132, log
entry 37). -/
def ProbeEntry.result (outcome : ProbeOutcome) (record : Option AwaitedProbe) (e : ProbeEntry) : ProbeResult :=
  { code := e.code, item := e.item, outcome := outcome, live := (record.map AwaitedProbe.live).getD false }

namespace State

/-- A command with a number is sent to a head of a lane (04 R69). -/
def sendTo (s : State) (l : LaneId) (h : HeadPos) (command : BitVec 8 → HeadCommand) : State :=
  s.modHead l h (HeadUnit.send s.hallTime command)

/-- The flight of a lane set. -/
def setFlight (s : State) (l : LaneId) (f : Flight) : State := s.modLane l fun x => { x with flight := f }

/-- A lossy half raises the lane's lossy rounds counter when it is made (05 R88, R104). -/
def countHalf (s : State) (l : LaneId) (half : Half) : State :=
  if half.lossy then s.modCounts l fun c => { c with lossyRounds := c.lossyRounds + 1 } else s

/-- A complete cycle is handed to the tracker and counted (05 R92); the half-cycle buffer is emptied (05 R90). -/
def deliver (s : State) (l : LaneId) (r : CycleReport) : State :=
  s.modLane l fun x =>
    { x with reports := x.reports ++ [r], buffer := none, counts := { x.counts with cycles := x.counts.cycles + 1 } }

/-! ## Round starts -/

/-- The first round start of a cycle, in the form the lane gives it (05 R87, R89). -/
def startCycle (s : State) (l : LaneId) : State :=
  let x := s.lane l
  let round := fun q => HeadCommand.round q x.settings.roundTime
  match x.form with
  | .paired => ((s.sendTo l .inner round).sendTo l .outer round).setFlight l (.rounds .paired none none)
  | .alternate => (s.sendTo l .inner round).setFlight l (.rounds .alternate none none)
  | .single w => (s.sendTo l w round).setFlight l (.rounds (.single w) none none)

/-- The holder's next round start: the outer round of a cycle whose inner half is buffered, or a new cycle (05 R90, R102).
A buffered half whose outer head has faulted completes its cycle with a lossy outer half first (05 R102). -/
def roundStart (s : State) (l : LaneId) : State :=
  let g := s.groupOf l
  let a := s.arbiter g
  let s := s.setBand g { a with tenureCount := satSucc 15 a.tenureCount }
  let x := s.lane l
  match x.buffer with
  | none => s.startCycle l
  | some half =>
    if x.outer.working then
      (s.sendTo l .outer fun q => .round q x.settings.roundTime).setFlight l (.rounds .alternate none none)
    else
      let outer := lossyHalf .outer s.hallTime
      ((s.countHalf l outer).deliver l { form := .alternate, inner := some half, outer := some outer }).startCycle l

/-! ## Probe starts -/

/-- PROBE is sent for the entry at the head of the queue, in the lane's form (05 R99, R100). -/
def sendProbe (s : State) (l : LaneId) (e : ProbeEntry) : State :=
  let probe := fun q => HeadCommand.probe q e.code
  match (s.lane l).form with
  | .paired => ((s.sendTo l .inner probe).sendTo l .outer probe).setFlight l (.probe .paired false)
  | .alternate => (s.sendTo l .inner probe).setFlight l (.probe .alternate false)
  | .single w => (s.sendTo l w probe).setFlight l (.probe (.single w) false)

/-- The probe at the head of the queue starts, unless something is in flight or an ABORT is still owed (05 R99, 04 R77). -/
def startProbe (s : State) (l : LaneId) : State :=
  let x := s.lane l
  match x.probes, x.flight with
  | e :: _, .nothing => if x.abortWaits then s else s.sendProbe l e
  | _, _ => s

/-- A new holder begins its work at once: a probe if its queue holds any, otherwise its rounds (05 R95). -/
def beginWork (s : State) (l : LaneId) : State := if (s.lane l).probes.isEmpty then s.roundStart l else s.startProbe l

/-! ## The band (05 section 5.3) -/

/-- The band is granted to a lane of the group (05 R95). -/
def grant (s : State) (g : GroupId) (l : LaneId) : State :=
  let a := s.arbiter g
  ((s.setBand g { a with band := .held l, tenureCount := 0, lastHolder := some l }).modLane l
    fun x => { x with ask := false }).beginWork l

/-- An ask of a lane in the group stands; urgent while its probe queue holds an entry (05 R94). -/
def asks (s : State) (g : GroupId) (l : LaneId) : Bool := (s.lane l).ask && s.groupOf l == g

/-- An urgent ask of a lane in the group stands (05 R94). -/
def asksUrgently (s : State) (g : GroupId) (l : LaneId) : Bool := s.asks g l && !(s.lane l).probes.isEmpty

/-- The lanes in the order of the arbiter's search: ascending, from the lane after the last holder (05 R95). -/
def searchOrder (last : Option LaneId) : List LaneId :=
  match last with
  | none => allLanes
  | some h => allLanes.map fun i => h + 1 + i

/-- The lane that the arbiter chooses at a guard end: urgent asks first (05 R95). -/
def chosen (s : State) (g : GroupId) : Option LaneId :=
  let order := searchOrder (s.arbiter g).lastHolder
  (order.find? (s.asksUrgently g)).or (order.find? (s.asks g))

/-- The guard end is reached: a waiting lane is granted the band, or the arbiter becomes FREE (05 R95). -/
def takeGuardEnd (s : State) (g : GroupId) : State :=
  match s.chosen g with
  | some l => s.grant g l
  | none => s.setBand g { s.arbiter g with band := .free }

/-- The band of a group is released: GUARD until the guard end, which is at once with a guard gap of 0 (05 R97). -/
def release (s : State) (g : GroupId) : State :=
  let s' := s.setBand g { s.arbiter g with band := .guarding, guardEnd := s.hallTime + s.hall.guardGap }
  if s.hall.guardGap = 0 then s'.takeGuardEnd g else s'

/-- A lane asks for the band; an ask taken while the arbiter is FREE is granted at once (05 R94, R95). -/
def askBand (s : State) (l : LaneId) : State :=
  let g := s.groupOf l
  if s.holds l then s
  else if (s.arbiter g).band == .free then s.grant g l
  else s.modLane l fun x => { x with ask := true }

/-- Another lane of the group waits. -/
def otherAsks (s : State) (l : LaneId) : Bool := allLanes.any fun m => m != l && s.asks (s.groupOf l) m

/-- Another lane of the group waits urgently. -/
def otherAsksUrgently (s : State) (l : LaneId) : Bool := allLanes.any fun m => m != l && s.asksUrgently (s.groupOf l) m

/-- The holder gives way and asks again at once; a buffered half is kept or lost by the half-cycle policy (05 R96, R97,
R102). -/
def giveWay (s : State) (l : LaneId) : State := ((s.modLane l Lane.breakCycle).release (s.groupOf l)).askBand l

/-- The holder's decision at the end of its own work (05 R96, R101). -/
def decideNext (s : State) (l : LaneId) : State :=
  let x := s.lane l
  if !x.probes.isEmpty then (s.modLane l Lane.breakCycle).startProbe l
  else if s.otherAsksUrgently l then s.giveWay l
  else if decide (x.settings.tenure ≤ (s.arbiter (s.groupOf l)).tenureCount) && s.otherAsks l then s.giveWay l
  else s.roundStart l

/-! ## The end of a round -/

/-- A round has ended by report or by fault and its half is made; a complete cycle is delivered, and when the step has
ended the holder decides (05 R87 to R91). -/
def roundEnded (s : State) (l : LaneId) (half : Half) : State :=
  let s := s.countHalf l half
  match (s.lane l).flight, half.head with
  | .rounds .paired _ (some o), .inner =>
    ((s.deliver l { form := .paired, inner := some half, outer := some o }).setFlight l .nothing).decideNext l
  | .rounds .paired _ none, .inner => s.setFlight l (.rounds .paired (some half) none)
  | .rounds .paired (some i) _, .outer =>
    ((s.deliver l { form := .paired, inner := some i, outer := some half }).setFlight l .nothing).decideNext l
  | .rounds .paired none _, .outer => s.setFlight l (.rounds .paired none (some half))
  | .rounds .alternate _ _, .inner =>
    ((s.modLane l fun x => { x with buffer := some half }).setFlight l .nothing).decideNext l
  | .rounds .alternate _ _, .outer =>
    ((s.deliver l { form := .alternate, inner := (s.lane l).buffer, outer := some half }).setFlight l .nothing).decideNext l
  | .rounds (.single w) _ _, .inner =>
    ((s.deliver l { form := .single w, inner := some half, outer := none }).setFlight l .nothing).decideNext l
  | .rounds (.single w) _ _, .outer =>
    ((s.deliver l { form := .single w, inner := none, outer := some half }).setFlight l .nothing).decideNext l
  | .nothing, _ | .probe _ _, _ => s

/-! ## The end of a probe -/

/-- The probe in flight ends: its result is reported, its entry leaves the queue with its awaited record, and the next probe
starts or the holder decides (05 R101, log entry 37). -/
def endProbe (s : State) (l : LaneId) (outcome : ProbeOutcome) : State :=
  match (s.lane l).flight, (s.lane l).probes with
  | .probe _ _, e :: rest =>
    (s.modLane l fun x =>
      { x with probes := rest, awaited := x.awaited.drop 1, flight := .nothing,
               results := x.results ++ [e.result outcome x.awaited.head?] }).decideNext l
  | _, _ => s

/-- PROBE goes to the outer head, as the second half of an ALTERNATE probe (05 R100). -/
def probeOuter (s : State) (l : LaneId) (faulted : Bool) : State :=
  match (s.lane l).probes with
  | [] => s
  | e :: _ => (s.sendTo l .outer fun q => .probe q e.code).setFlight l (.probe .alternate faulted)

/-- The result of a probe with no FOUND report (05 R100). -/
def unseen (faulted : Bool) : ProbeOutcome := if faulted then .failed else .notSeen

/-- A head has ended its PROBE without finding the tag, by its report or, if `byFault`, by its fault (05 R100). -/
def probeHeadEnded (s : State) (l : LaneId) (h : HeadPos) (byFault : Bool) : State :=
  match (s.lane l).flight with
  | .probe form faulted =>
    let faulted := faulted || byFault
    match form, h with
    | .paired, _ =>
      if ((s.lane l).head (otherHead h)).probeOut then s.setFlight l (.probe .paired faulted) else s.endProbe l (unseen faulted)
    | .alternate, .inner => s.probeOuter l faulted
    | .alternate, .outer => s.endProbe l (unseen faulted)
    | .single _, _ => s.endProbe l (unseen faulted)
  | .nothing | .rounds _ _ _ => s

/-- A head has found the tag: a PROBE still outstanding on the other head is aborted, and the probe ends SEEN (05 R100). -/
def probeFound (s : State) (l : LaneId) (h : HeadPos) : State :=
  (s.modHead l (otherHead h) HeadUnit.abortCommand).endProbe l .seen

/-! ## Asking a lane for a probe -/

/-- A probe is refused when the queue is full or the lane is not in service (05 R98). -/
def acceptsProbe (s : State) (l : LaneId) : Bool :=
  (s.lane l).state.hasWork && decide ((s.lane l).probes.length < Config.probeCapacity)

/-- A probe has joined the queue: a holder starts it, aborting its rounds in flight, and another lane asks urgently
(05 R99). -/
def probeJoined (s : State) (l : LaneId) : State :=
  if s.holds l then
    match (s.lane l).flight with
    | .rounds _ _ _ => ((s.modLane l fun x => { x.abortAll.breakCycle with flight := .nothing }).startProbe l)
    | .nothing => s.startProbe l
    | .probe _ _ => s
  else if (s.lane l).ask then s
  else s.askBand l

/-- An accepted probe joins the tail of the queue (05 R98, R99). -/
def acceptProbe (s : State) (l : LaneId) (e : ProbeEntry) : State :=
  (s.modLane l fun x => { x with probes := x.probes ++ [e] }).probeJoined l

/-! ## Leaving service and stopping -/

/-- The band is released if the lane holds it (04 R81, R83). -/
def releaseIfHeld (s : State) (l : LaneId) : State := if s.holds l then s.release (s.groupOf l) else s

/-- The lane enters STOPPED: among the rest, its queued probes are reported FAILED in queue order (04 R80, R81, 05 R98,
R103, log entry 37). -/
def enterStopped (s : State) (l : LaneId) : State :=
  ((s.modLane l fun x =>
      { x.abortAll with
          state := .stopped, flight := .nothing, buffer := none, ask := false, probes := [],
          awaited := x.awaited.drop x.probes.length,
          results := x.results ++ x.probes.zipIdx.map fun e => e.1.result .failed x.awaited[e.2]? }).raise
    .fault).releaseIfHeld l

/-- The lane leaves STARTING once both heads have left UNKNOWN (04 R79, R80, 05 R94). -/
def leaveStarting (s : State) (l : LaneId) : State :=
  let x := s.lane l
  if x.inner.state == .unknown || x.outer.state == .unknown then s
  else if x.inner.state == .ready && x.outer.state == .ready then (s.modLane l fun x => { x with state := .inService }).askBand l
  else if (x.inner.state == .ready || x.outer.state == .ready) && x.settings.faultPolicy == .single then
    ((s.modLane l fun x => { x with state := .single }).raise .fault).askBand l
  else s.enterStopped l

/-- The round or probe in flight on a head that has faulted ends, in a lane that goes on with the other head (04 R80). -/
def flightFaulted (s : State) (l : LaneId) (h : HeadPos) : State :=
  match (s.lane l).flight with
  | .rounds _ _ _ => s.roundEnded l (lossyHalf h s.hallTime)
  | .probe _ _ => s.probeHeadEnded l h true
  | .nothing => s

/-- The lossy half of a round whose head's fault stops the lane is made and counted (05 R88, R91, log entry 12). -/
def countFaultedRound (s : State) (l : LaneId) (h : HeadPos) : State :=
  match (s.lane l).flight with
  | .rounds _ _ _ => s.countHalf l (lossyHalf h s.hallTime)
  | .probe _ _ | .nothing => s

/-- A head that had a command outstanding has become FAULTED, and the lane moves in the same step (04 R79, R80). -/
def headFaulted (s : State) (l : LaneId) (h : HeadPos) : State :=
  match (s.lane l).state, (s.lane l).settings.faultPolicy with
  | .starting, _ => s.leaveStarting l
  | .inService, .single => ((s.modLane l fun x => { x with state := .single }).raise .fault).flightFaulted l h
  | .inService, .stop | .single, _ => (s.countFaultedRound l h).enterStopped l
  | .disabled, _ | .stopped, _ => s

/-- An attempt of the command outstanding on a head has failed (04 R72, R73). -/
def attemptFailed (s : State) (l : LaneId) (h : HeadPos) : State :=
  let failures := ((s.lane l).head h).failures + 1
  let s := s.modHead l h fun u => { u with failures := failures }
  if (s.lane l).settings.retryLimit < failures then (s.modHead l h HeadUnit.fault).headFaulted l h
  else s.modHead l h (HeadUnit.retry s.hallTime)

/-- The sweeper's part of leaving service: commands aborted, band released and ask withdrawn, probe queue, buffer and
everything on its way emptied (04 R83 steps 1 to 4, log entry 6). -/
def sweeperLeaves (s : State) (l : LaneId) : State :=
  (s.modLane l fun x =>
    let y := x.abortAll
    { y with inner := y.inner.leave, outer := y.outer.leave, flight := .nothing, buffer := none, ask := false,
             probes := [], reports := [], passages := [], verdicts := [], results := [] }).releaseIfHeld l

/-- The lane enters STARTING and IDENT is sent to both heads (04 R76, R82, R84). -/
def startLane (s : State) (l : LaneId) : State :=
  s.modLane l fun x =>
    { x with state := .starting, inner := x.inner.ident s.hallTime, outer := x.outer.ident s.hallTime }

end State

end Sys2Proof.Machine
end

