-- ==== Sys2Proof/Machine/Judging.lean ====
section
/-! DEFINITION. Operations of the judgement unit (07): its list, its asking queue, verification, verdicts and removals. -/

namespace Sys2Proof.Machine

namespace State

/-- The judgement of an item (07 R125). -/
def findJudgement (s : State) (i : Item) : Option Judgement := s.judge.entries.find? fun j => j.item == i

/-- The judgement of an item changed by `f`. -/
def modJudgement (s : State) (i : Item) (f : Judgement → Judgement) : State :=
  { s with judge := { s.judge with entries := s.judge.entries.map fun j => if j.item == i then f j else j } }

/-- A judgement joins the list. -/
def addJudgement (s : State) (j : Judgement) : State :=
  { s with judge := { s.judge with entries := s.judge.entries ++ [j] } }

/-- A verdict is returned to the tracker of a lane (07 R144). -/
def returnVerdict (s : State) (l : LaneId) (i : Item) (v : Verdict) : State :=
  s.modLane l fun x => { x with verdicts := x.verdicts ++ [(i, v)] }

/-! ## The asking queue (07 R133) -/

/-- The claim of the item at the front of the queue is offered when no claim is at the port or unanswered (07 R133). -/
def offerJudge (s : State) : State :=
  match s.port.judge, s.judge.answer, s.judge.asking with
  | none, none, i :: _ =>
    match s.findJudgement i with
    | some j => { s with port := { s.port with judge := some (i, j.owner) } }
    | none => s
  | _, _, _ => s

/-- An item joins the back of the asking queue (07 R127, R138). -/
def joinAsking (s : State) (i : Item) : State := ({ s with judge := { s.judge with asking := s.judge.asking ++ [i] } }).offerJudge

/-! ## Verdicts (07 R134, R141, R143) -/

/-- A verdict of ALARM: the record is raised, its number written, and the verdict returned, in one step (07 R143). -/
def giveAlarm (s : State) (j : Judgement) (unverified : Bool) : State :=
  let number := s.makeLogRoom.nextNumber
  let s := s.raiseAlarm { lane := j.owner, item := j.item, raw := j.raw, cls := alarmClassOf j.reason, unverified := unverified }
  let s := s.modJudgement j.item fun e => { e with stage := .done, verdict := some .alarm, alarmNumber := some number }
  (s.returnVerdict j.owner j.item .alarm).modCounts j.owner fun c => { c with alarms := c.alarms + 1 }

/-- A verdict of STRAY (07 R141). -/
def giveStray (s : State) (j : Judgement) : State :=
  let s := s.modJudgement j.item fun e => { e with stage := .done, verdict := some .stray }
  (s.returnVerdict j.owner j.item .stray).modCounts j.owner fun c => { c with strays := c.strays + 1 }

/-- A verdict of PASS (07 R134). -/
def givePass (s : State) (j : Judgement) : State :=
  let s := s.modJudgement j.item fun e => { e with stage := .done, verdict := some .pass }
  (s.returnVerdict j.owner j.item .pass).modCounts j.owner fun c => { c with passes := c.passes + 1 }

/-- The verdict SHADOW returned to a lane (07 R128, R129). -/
def giveShadow (s : State) (l : LaneId) (i : Item) : State :=
  (s.returnVerdict l i .shadow).modCounts l fun c => { c with shadows := c.shadows + 1 }

/-! ## Verification (07 R140) -/

/-- The code of a verification probe: the hall mark as it stands, and the raw item or else the item (01 R2, 07 R140). -/
def probeCode (s : State) (j : Judgement) : TagCode := { mark := s.hall.hallMark, item := j.raw.getD j.item }

/-- The judgement of an item goes to verification (07 R140). -/
def verify (s : State) (i : Item) : State :=
  match s.findJudgement i with
  | none => s
  | some j =>
    if (s.lane j.owner).settings.verify && s.acceptsProbe j.owner then
      let s' := s.modJudgement i fun e => { e with stage := .verifying }
      (s'.modLane j.owner fun x => { x with awaited := x.awaited ++ [{ item := i, live := true }] }).acceptProbe j.owner
        { code := s.probeCode j, item := i }
    else s.giveAlarm j true

/-- The live record of an item in a lane's awaited probe list becomes ignored; one that has left the list with its result, not
yet taken, is ignored there (07 R132, log entry 37). -/
def ignoreProbe (s : State) (l : LaneId) (i : Item) : State :=
  s.modLane l fun x =>
    { x with awaited := x.awaited.map fun r => if r.item == i then { r with live := false } else r
             results := x.results.map fun r => if r.item == i then { r with live := false } else r }

/-! ## Removal (07 R145, R146) -/

/-- The judgements for which `test` holds leave the list: their items leave the asking queue, a waiting claim is withdrawn,
the answer of a taken one will be discarded, and the next claim is offered (07 R133). -/
def removeJudgements (s : State) (test : Judgement → Bool) : State :=
  let gone := fun (i : Item) => s.judge.entries.any fun j => j.item == i && test j
  ({ s with
      judge := { s.judge with
        entries := s.judge.entries.filter fun j => !test j
        asking := s.judge.asking.filter fun i => !gone i
        answer := s.judge.answer.map fun (a : Item × Bool) => (a.1, a.2 && !gone a.1) }
      port := { s.port with judge := s.port.judge.filter fun (c : Item × LaneId) => !gone c.1 } }).offerJudge

/-- The passages that lane `l` has handed over and that have not been taken (log entry 6). -/
def passagesOnTheWay (s : State) (l : LaneId) : Nat :=
  (s.lane l).toJudge.countP fun m => match m with
    | .leaving _ _ _ => true
    | .removed _ => false

/-- The judgement unit's part of leaving service: every entry the lane owns is removed, the exits without a verdict are
counted as dropped, and the awaited probe list is emptied (04 R83 step 5, 07 R146). -/
def judgementsLeave (s : State) (l : LaneId) : State :=
  let undecided := s.judge.entries.countP fun j => j.owner == l && j.stage != .done
  let dropped := BitVec.ofNat 32 (undecided + s.passagesOnTheWay l)
  (s.modLane l fun x =>
    { x with toJudge := [], awaited := [], counts := { x.counts with dropped := x.counts.dropped + dropped } }).removeJudgements
    fun j => j.owner == l

/-- The five steps by which a lane leaves service (04 R83). -/
def leaveService (s : State) (l : LaneId) : State := (s.sweeperLeaves l).judgementsLeave l

/-- RESTART LANE on a lane in any state (04 R84). -/
def restartLane (s : State) (l : LaneId) : State :=
  if (s.lane l).state == .disabled then s.startLane l else (s.leaveService l).startLane l

/-- DISABLE LANE on a lane in any state (04 R83). -/
def disableLane (s : State) (l : LaneId) : State :=
  if (s.lane l).state == .disabled then s else (s.leaveService l).modLane l fun x => { x with state := .disabled }

end State

end Sys2Proof.Machine
end

