-- ==== Sys2Proof/Machine/Wire.lean ====
section
/-! DEFINITION. Bytes: the byte order and the check value of every link, and the messages of a head link (11 R193, R195). -/

namespace Sys2Proof.Machine

/-- The number that bytes spell, most significant byte first (11). -/
def beNat (bytes : List Byte) : Nat := bytes.foldl (fun n b => 256 * n + b.toNat) 0

/-- A number as `k` bytes, most significant byte first (11). -/
def beBytes : Nat → Nat → List Byte
  | 0, _ => []
  | k + 1, n => BitVec.ofNat 8 (n / 256 ^ k) :: beBytes k n

/-! ## The check value (04 R68, 11 R195) -/

/-- One shift of the check value: left, with the generator applied when a one leaves the top. -/
def crcShift (c : BitVec 16) : BitVec 16 := if c.msb then (c <<< 1) ^^^ 0x1021#16 else c <<< 1

/-- The check value after one more byte, fed in most significant bit first. -/
def crcByte (c : BitVec 16) (b : Byte) : BitVec 16 :=
  crcShift (crcShift (crcShift (crcShift (crcShift (crcShift (crcShift (crcShift (c ^^^ (b.setWidth 16 <<< 8)))))))))

/-- The check value of a run of bytes: initial value all ones, no final inversion. -/
def crc (bytes : List Byte) : BitVec 16 := bytes.foldl crcByte 0xFFFF#16

/-- The two bytes of a check value, most significant first. -/
def crcBytes (bytes : List Byte) : List Byte := beBytes 2 (crc bytes).toNat

/-! ## Messages of a head link (11 R195, R196) -/

/-- The 2 bytes of the library mark and the 5 of the item number. -/
def tagBytes (c : TagCode) : List Byte := beBytes 2 c.mark ++ beBytes 5 c.item

/-- The bytes of a message to a head before its check: type, then contents (11 R195). -/
def HeadCommand.payload : HeadCommand → List Byte
  | .ident => [1]
  | .round q dwell => [2, q, BitVec.ofNat 8 dwell]
  | .probe q code => [3, q] ++ tagBytes code
  | .abort q => [4, q]

/-- The bytes of a message to a head, with its check. -/
def HeadCommand.bytes (c : HeadCommand) : List Byte := c.payload ++ crcBytes c.payload

/-- What a head's message says (04 R67). -/
inductive HeadReply where
  | ident (position : HeadPos)
  | round (seq : BitVec 8) (overflow : Bool) (codes : List TagCode)
  | probe (seq : BitVec 8) (found : Bool)
  deriving DecidableEq, Repr

/-- Exactly `n` tag codes of 7 bytes each. -/
def parseCodes : Nat → List Byte → Option (List TagCode)
  | 0, [] => some []
  | n + 1, a :: b :: c :: d :: e :: f :: g :: rest =>
    (parseCodes n rest).map (fun cs => { mark := beNat [a, b], item := beNat [c, d, e, f, g] } :: cs)
  | _, _ => none

/-- The type, the length and the fields of a message whose check has matched (11 R196 tests 3 to 5). -/
def parseHeadPayload : List Byte → Option HeadReply
  | [5, p] => if p = 1 then some (.ident .inner) else if p = 2 then some (.ident .outer) else none
  | 6 :: q :: o :: n :: codes =>
    if n.toNat ≤ 40 then
      match parseCodes n.toNat codes with
      | some cs => if o = 0 then some (.round q false cs) else if o = 1 then some (.round q true cs) else none
      | none => none
    else none
  | [7, q, a] => if a = 1 then some (.probe q true) else if a = 2 then some (.probe q false) else none
  | _ => none

/-- A message received on a head link: none when it fails any test of 11 R196 and is discarded. -/
def parseHeadMessage (message : List Byte) : Option HeadReply :=
  if message.length < 3 then none
  else
    let body := message.take (message.length - 2)
    if message.drop (message.length - 2) = crcBytes body then parseHeadPayload body else none

end Sys2Proof.Machine
end

