-- ==== Sys2Proof/Machine/Operands.lean ====
section
/-! DEFINITION. Operand forms: the bodies of the requests and commands of both ports (11 R197, R200), and the tests of
their options (03 R44). -/

namespace Sys2Proof.Machine

/-- Exactly `n` item numbers of 5 bytes each. -/
def parseItems : Nat → List Byte → Option (List RawItem)
  | 0, [] => some []
  | n + 1, a :: b :: c :: d :: e :: rest =>
    (parseItems n rest).map fun xs => { item := beNat [a, b, c, d, e], allowance := 0, lanes := 0 } :: xs
  | _, _ => none

/-- Exactly `n` groups of item, allowance and lanes, 7 bytes each. -/
def parseLoads : Nat → List Byte → Option (List RawItem)
  | 0, [] => some []
  | n + 1, a :: b :: c :: d :: e :: m :: l :: rest =>
    (parseLoads n rest).map fun xs => { item := beNat [a, b, c, d, e], allowance := m.toNat, lanes := l } :: xs
  | _, _ => none

/-- The items that a count byte and the bytes after it give: a count of 0 or above the limit gives no length (11 R200). -/
def countedItems (limit : Nat) (parse : Nat → List Byte → Option (List RawItem)) (count : Byte) (rest : List Byte) :
    Option (List RawItem) :=
  if 1 ≤ count.toNat ∧ count.toNat ≤ limit then parse count.toNat rest else none

/-- An item request of a kind with the options given, when its items match its count (11 R200). -/
def itemRequest (k : ItemKind) (o : RawOptions) (items : Option (List RawItem)) : Request :=
  match items with
  | some xs => .items k o xs
  | none => .bad

/-- No option. -/
def RawOptions.absent : RawOptions := { batch := 0, lanes := 0, allowance := 0 }

/-- The body of a HOLD or ISSUE: batch, lanes, allowance, count and items (11 R197). -/
def parseOptionsAndItems (k : ItemKind) : List Byte → Request
  | b1 :: b0 :: l :: a :: n :: rest =>
    itemRequest k { batch := beNat [b1, b0], lanes := l, allowance := a.toNat } (countedItems 8 parseItems n rest)
  | _ => .bad

/-- The body of a CONFIRM: allowance, count and items (11 R197). -/
def parseAllowanceAndItems (k : ItemKind) : List Byte → Request
  | a :: n :: rest => itemRequest k { batch := 0, lanes := 0, allowance := a.toNat } (countedItems 8 parseItems n rest)
  | _ => .bad

/-- The body of a CANCEL, DISCHARGE, QUERY or LOAD: count and items (11 R197). -/
def parseCounted (k : ItemKind) (limit : Nat) (parse : Nat → List Byte → Option (List RawItem)) : List Byte → Request
  | n :: rest => itemRequest k .absent (countedItems limit parse n rest)
  | _ => .bad

/-- A body of one number of a byte (11 R197). -/
def parseByte (f : Nat → Request) : List Byte → Request
  | [a] => f a.toNat
  | _ => .bad

/-- A body of one number of two bytes (11 R197). -/
def parseTwo (f : Nat → Request) : List Byte → Request
  | [a, b] => f (beNat [a, b])
  | _ => .bad

/-- A body of one item number (11 R197). -/
def parseItem (f : Item → Request) : List Byte → Request
  | [a, b, c, d, e] => f (beNat [a, b, c, d, e])
  | _ => .bad

/-- An empty body (11 R197). -/
def parseNothing (r : Request) : List Byte → Request
  | [] => r
  | _ => .bad

/-- The body of a batch request on the service link: batch and source (11 R197). -/
def parseBatchAndSource (k : BatchKind) : List Byte → Request
  | [b1, b0, src] => .batch k (beNat [b1, b0]) (some src.toNat)
  | _ => .bad

/-- The body of a SET HALL (11 R197). -/
def parseHall : List Byte → Request
  | [m1, m0, c, al, le, pl, st, w1, w0, g] =>
    .setHall { hallMark := beNat [m1, m0], defaultClass := c.toNat, allowance := al.toNat, leeway := le.toNat,
               pendingLimit := pl.toNat, standingTime := st.toNat, lateWindow := beNat [w1, w0], guardGap := g.toNat }
  | _ => .bad

/-- The body of a SET WINDOW (11 R197). -/
def parseWindow : List Byte → Request
  | [w, en, b4, b3, b2, b1, b0, k, c, r, t4, t3, t2, t1, t0] =>
    .setWindow { window := w.toNat, enabled := en.toNat, base := beNat [b4, b3, b2, b1, b0], k := k.toNat, cls := c.toNat,
                 renumber := r.toNat, target := beNat [t4, t3, t2, t1, t0] }
  | _ => .bad

/-- The body of a SET RIGHTS (11 R197). -/
def parseRights : List Byte → Request
  | [d, c, r] => .setRights d.toNat c.toNat r.toNat
  | _ => .bad

/-- The body of a SET LANE (11 R197). -/
def parseLane : List Byte → Request
  | [l, bg, sm, hc, rt, ro, rl, te, cc, ml, g1, g0, ve, oo, fp, so] =>
    .setLane { lane := l.toNat, bandGroup := bg.toNat, sweepMode := sm.toNat, halfCycle := hc.toNat, roundTime := rt.toNat,
               roundTimeout := ro.toNat, retryLimit := rl.toNat, tenure := te.toNat, confirmationCount := cc.toNat,
               missLimit := ml.toNat, grace := beNat [g1, g0], verify := ve.toNat, outerOnly := oo.toNat,
               faultPolicy := fp.toNat, soundingTime := so.toNat }
  | _ => .bad

/-- The body of a READ ALARMS: nothing, or an alarm number (11 R197). -/
def parseAfter : List Byte → Request
  | [] => .readAlarms none
  | [n1, n0] => .readAlarms (some (beNat [n1, n0]))
  | _ => .bad

/-- The request that a kind and a body give on either port; `.bad` where the kind is none of the two ports' common kinds
or the body's length is not the kind's (11 R197, R200). -/
def parseShared (kind : Nat) (body : List Byte) : Request :=
  match kind with
  | 1 => parseOptionsAndItems .hold body
  | 2 => parseOptionsAndItems .issue body
  | 3 => parseAllowanceAndItems .confirm body
  | 4 => parseCounted .cancel 8 parseItems body
  | 7 => parseCounted .discharge 8 parseItems body
  | 8 => parseCounted .query 8 parseItems body
  | 14 => parseByte .ackLane body
  | 15 => parseByte .restartLane body
  | _ => .bad

/-- The request of a desk frame (09 R168, R174). -/
def parseDeskRequest (kind : Byte) (body : List Byte) : Request :=
  match kind.toNat with
  | 5 => parseTwo (fun n => .batch .confirm n none) body
  | 6 => parseTwo (fun n => .batch .cancel n none) body
  | 12 => parseItem .standing body
  | 13 => parseNothing .endStanding body
  | k => parseShared k body

/-- The command of a service link frame (10 R181). -/
def parseLinkRequest (kind : Byte) (body : List Byte) : Request :=
  match kind.toNat with
  | 5 => parseBatchAndSource .confirm body
  | 6 => parseBatchAndSource .cancel body
  | 9 => parseCounted .load 32 parseLoads body
  | 10 => parseItem .walk body
  | 11 => parseNothing .clearTable body
  | 16 => parseHall body
  | 17 => parseWindow body
  | 18 => parseRights body
  | 19 => parseLane body
  | 20 => parseByte .enableLane body
  | 21 => parseByte .disableLane body
  | 22 => parseByte .readLane body
  | 23 => parseNothing .readStatus body
  | 24 => parseNothing .clearCounts body
  | 25 => parseAfter body
  | 26 => parseTwo .ackAlarm body
  | 27 => parseNothing .clearLog body
  | 28 => parseNothing .readNotices body
  | 29 => parseNothing .restart body
  | k => parseShared k body

/-! ## Options -/

/-- A number that 0 stands absent for (11 R193). -/
def absentZero (n : Nat) : Option Nat := if n = 0 then none else some n

/-- A lane set that names no lane is taken as absent (03 R44, 02 R19). -/
def absentLanes (l : LaneSet) : Option LaneSet := if l = 0 then none else some l

/-- The options of an item request as its claims carry them; none when the allowance is out of range (03 R44). -/
def RawOptions.tested (o : RawOptions) : Option ClaimOptions :=
  if o.allowance ≤ 240 then
    some { batch := absentZero o.batch, lanes := absentLanes o.lanes, allowance := absentZero o.allowance }
  else none

/-- The options of one item's claim: a LOAD item brings its own allowance and lanes, and no batch (03 R62). -/
def RawItem.options (x : RawItem) (k : ItemKind) (o : ClaimOptions) : ClaimOptions :=
  match k with
  | .load => { batch := none, lanes := absentLanes x.lanes, allowance := absentZero x.allowance }
  | .hold | .issue | .confirm | .cancel | .discharge | .query => o

/-- The source whose entries a batch request means: the desk itself, or the one that source 0 names (03 R59). -/
def batchSelection (requester : Source) (selected : Option Nat) : Option Source :=
  match requester with
  | .desk d => some (.desk d)
  | .link => selected.bind Source.ofNumber

end Sys2Proof.Machine
end

