-- ==== Sys2Proof/Machine/Windows.lean ====
section
/-! DEFINITION. The window unit and the source unit (01): matching, normalisation, key lookup, rights and standing. -/

namespace Sys2Proof.Machine

/-- The window indexes in ascending number. -/
def allWindows : List (Fin 16) := [0, 1, 2, 3, 4, 5, 6, 7, 8, 9, 10, 11, 12, 13, 14, 15]

/-- The column, and the window index, of a number that matches no window (01 R4). -/
def defaultColumn : Column := 16

/-- A normalisation result (01 R5): the raw item is present only when it differs from the normalised item. -/
structure Normal where
  item : Item
  raw : Option Item
  cls : ItemClass
  column : Column
  deriving DecidableEq, Repr

/-- The number of items a window covers (01 R3). -/
def StockWindow.size (w : StockWindow) : Nat := 2 ^ w.k

/-- A range of a window's size that begins at `start` holds the number. -/
def StockWindow.spans (w : StockWindow) (start n : Item) : Bool := decide (start ≤ n) && decide (n < start + w.size)

/-- The window is enabled and its range holds the raw number (01 R4). -/
def StockWindow.covers (w : StockWindow) (n : Item) : Bool := w.enabled && w.spans w.base n

/-- The first item of a window's image (01 R6). -/
def StockWindow.imageStart (w : StockWindow) : Item := w.target.getD w.base

/-- The window is enabled and its image holds the key (01 R6). -/
def StockWindow.imageHolds (w : StockWindow) (key : Item) : Bool := w.enabled && w.spans w.imageStart key

namespace State

/-- The first enabled window that satisfies a test, in ascending window number. -/
def firstWindow (s : State) (test : StockWindow → Bool) : Option (Fin 16) := allWindows.find? fun w => test s.windows[w]

/-- The window unit normalises a valid raw number (01 R4, R5). -/
def normalise (s : State) (raw : Item) : Normal :=
  match s.firstWindow fun w => w.covers raw with
  | some w =>
    let win := s.windows[w]
    let item := match win.target with
      | some target => target + (raw - win.base)
      | none => raw
    { item := item, raw := if item = raw then none else some raw, cls := win.cls, column := w.castSucc }
  | none => { item := raw, raw := none, cls := s.hall.defaultClass, column := defaultColumn }

/-- The window unit looks up a key of the clearance table: its class and column (01 R6). -/
def keyLookup (s : State) (key : Item) : ItemClass × Column :=
  match s.firstWindow fun w => w.imageHolds key with
  | some w => (s.windows[w].cls, w.castSucc)
  | none => (s.hall.defaultClass, defaultColumn)

end State

/-! ## Rights and standing -/

/-- A right lets HOLD, ISSUE, CONFIRM and CONFIRM BATCH through (01 R11). -/
def Right.issues : Right → Bool
  | .issue | .both => true
  | .none | .discharge => false

/-- A right lets DISCHARGE through (01 R11). -/
def Right.discharges : Right → Bool
  | .discharge | .both => true
  | .none | .issue => false

namespace State

/-- The right that a source holds in a column; source 0 holds BOTH at all times (01 R10). -/
def rightOf (s : State) (src : Source) (c : Column) : Right :=
  match src with
  | .link => .both
  | .desk d => s.rights[d][c]

/-- The rights check of an item request (01 R11, 03 R46 step 3): CANCEL and QUERY make none. -/
def rightAllows (s : State) (k : ItemKind) (src : Source) (c : Column) : Bool :=
  match k with
  | .hold | .issue | .confirm | .load => (s.rightOf src c).issues
  | .discharge => (s.rightOf src c).discharges
  | .cancel | .query => true

/-- The standing test: source 0 is in standing at all times (01 R16). -/
def inStanding (s : State) (src : Source) : Bool :=
  match src with
  | .link => true
  | .desk d => s.standing[d].isSome

/-- The standing record of a desk written (01 R12). -/
def setStanding (s : State) (d : DeskId) (r : Option Standing) : State := { s with standing := s.standing.set d r }

/-- The order of checks of one item up to its claim (03 R46 steps 1 to 4): a refusal's code, or the item normalised. -/
def checkItem (s : State) (k : ItemKind) (src : Source) (x : RawItem) : Except Code Normal :=
  if !validItem x.item then .error .badItem
  else if k == .load && (x.allowance == 0 || decide (240 < x.allowance)) then .error .badValue
  else
    let n := s.normalise x.item
    if (k == .hold || k == .issue || k == .confirm || k == .load) && n.cls == .reference then .error .referenceStock
    else if (k == .hold || k == .issue || k == .load) && (n.cls == .exempt || n.cls == .staff) then .error .notStock
    else if !s.rightAllows k src n.column then .error .noRight
    else if (k == .hold || k == .issue || k == .confirm) && n.cls == .restricted && !s.inStanding src then .error .noStanding
    else .ok n

end State

/-! ## Settings written over the service link -/

/-- The class that a byte names (11 R193). -/
def ItemClass.ofNumber : Nat → Option ItemClass
  | 1 => some .lending
  | 2 => some .reference
  | 3 => some .restricted
  | 4 => some .exempt
  | 5 => some .staff
  | _ => none

/-- The right that a byte names (11 R193). -/
def Right.ofNumber : Nat → Option Right
  | 1 => some .none
  | 2 => some .issue
  | 3 => some .discharge
  | 4 => some .both
  | _ => none

/-- A yes-or-no byte (11 R193). -/
def yesNo : Nat → Option Bool
  | 0 => some false
  | 1 => some true
  | _ => none

/-- A value between two bounds, both included. -/
def within (lo hi n : Nat) : Bool := decide (lo ≤ n) && decide (n ≤ hi)

/-- The hall settings that a SET HALL gives, when every value is in its range (10 R183). -/
def RawHall.settings (v : RawHall) : Option HallSettings :=
  match ItemClass.ofNumber v.defaultClass with
  | some c =>
    if (c == .lending || c == .reference || c == .restricted) && within 1 65535 v.hallMark && within 1 240 v.allowance
        && within 0 30 v.leeway && within 2 60 v.pendingLimit && within 1 30 v.standingTime && within 0 300 v.lateWindow
        && within 0 20 v.guardGap then
      some { hallMark := v.hallMark, defaultClass := c, allowance := v.allowance, leeway := v.leeway,
             pendingLimit := v.pendingLimit, standingTime := v.standingTime, lateWindow := v.lateWindow,
             guardGap := v.guardGap }
    else none
  | none => none

/-- The window number and record that a SET WINDOW gives, when it passes every check (01 R8). -/
def RawWindow.record (v : RawWindow) : Option (Fin 16 × StockWindow) :=
  match ItemClass.ofNumber v.cls, yesNo v.enabled, yesNo v.renumber with
  | some c, some enabled, some renumber =>
    if hw : v.window < 16 then
      if within 0 32 v.k && v.base % 2 ^ v.k == 0 && decide (v.base + 2 ^ v.k - 1 ≤ maxItem)
          && (!renumber || (v.target != 0 && v.target % 2 ^ v.k == 0 && decide (v.target + 2 ^ v.k - 1 ≤ maxItem)
                && c != .exempt && c != .staff)) then
        some (⟨v.window, hw⟩, { enabled := enabled, base := v.base, k := v.k, cls := c,
                                target := if renumber then some v.target else none })
      else none
    else none
  | _, _, _ => none

/-- The columns that a SET RIGHTS names: one, or all seventeen for 255 (01 R10, 11 R197). -/
def columnsOf (column : Nat) : Option (List Column) :=
  if column = 255 then some [0, 1, 2, 3, 4, 5, 6, 7, 8, 9, 10, 11, 12, 13, 14, 15, 16]
  else if h : column < 17 then some [⟨column, h⟩] else none

/-- The desk, the columns and the right that a SET RIGHTS gives, when each is in range (01 R10). -/
def rightsWrite (desk column right : Nat) : Option (DeskId × List Column × Right) :=
  match Source.ofNumber desk, columnsOf column, Right.ofNumber right with
  | some (.desk d), some cs, some r => some (d, cs, r)
  | _, _, _ => none

/-- The rights map with a right written into some columns of a desk's row (01 R10). -/
def State.writeRights (s : State) (d : DeskId) (cs : List Column) (r : Right) : State :=
  { s with rights := s.rights.set d (cs.foldl (fun (row : Vector Right 17) (c : Column) => row.set c r) s.rights[d]) }

/-- A two-valued setting, numbered 1 and 2 (11 R193). -/
def oneOfTwo {α : Type} (first second : α) : Nat → Option α
  | 1 => some first
  | 2 => some second
  | _ => none

/-- The fourteen settings that a SET LANE gives, when every value is in its range (10 R185). -/
def RawLane.settings (v : RawLane) : Option LaneSettings :=
  match oneOfTwo SweepMode.paired SweepMode.alternate v.sweepMode,
        oneOfTwo HalfCyclePolicy.continue HalfCyclePolicy.restart v.halfCycle,
        oneOfTwo OuterOnlyPolicy.ignore OuterOnlyPolicy.judge v.outerOnly,
        oneOfTwo FaultPolicy.single FaultPolicy.stop v.faultPolicy, yesNo v.verify with
  | some mode, some half, some outerOnly, some policy, some verify =>
    if hg : v.bandGroup < 4 then
      if within 20 100 v.roundTime && within 30 250 v.roundTimeout && decide (v.roundTime + 10 ≤ v.roundTimeout)
          && within 0 3 v.retryLimit && within 1 15 v.tenure && within 1 8 v.confirmationCount && within 1 15 v.missLimit
          && within 0 3000 v.grace && v.grace % 100 == 0 && within 1 60 v.soundingTime then
        some { bandGroup := ⟨v.bandGroup, hg⟩, sweepMode := mode, halfCycle := half, roundTime := v.roundTime,
               roundTimeout := v.roundTimeout, retryLimit := v.retryLimit, tenure := v.tenure,
               confirmationCount := v.confirmationCount, missLimit := v.missLimit, grace := v.grace, verify := verify,
               outerOnly := outerOnly, faultPolicy := policy, soundingTime := v.soundingTime }
      else none
    else none
  | _, _, _, _, _ => none

end Sys2Proof.Machine
end

