-- ==== Sys2Proof/Machine/Table.lean ====
section
/-! DEFINITION. Operations of the clearance table and its port (02, 03): the ring, room, the effect of each claim, and expiry. -/

namespace Sys2Proof.Machine

/-! ## The ring of the table port (02 R30) -/

/-- The claimants in the order in which the ring reaches them after one has been served (02 R30). -/
def ringAfter : Claimant → List Claimant
  | .desk => [.link, .judge, .expiry, .desk]
  | .link => [.judge, .expiry, .desk, .link]
  | .judge => [.expiry, .desk, .link, .judge]
  | .expiry => [.desk, .link, .judge, .expiry]

/-- A claimant has a claim waiting. -/
def TablePort.waiting (p : TablePort) : Claimant → Bool
  | .desk => p.desk.isSome
  | .link => p.link.isSome
  | .judge => p.judge.isSome
  | .expiry => p.expiry.isSome

/-- The claimant whose claim the port takes next (02 R30). -/
def TablePort.turn (p : TablePort) : Option Claimant := (ringAfter p.lastServed).find? p.waiting

/-- The request port whose claim is next, with the claim. -/
def TablePort.nextRequest (p : TablePort) : Option (PortId × Claim) :=
  match p.turn with
  | some .desk => p.desk.map fun c => (.desk, c)
  | some .link => p.link.map fun c => (.link, c)
  | some .judge | some .expiry | none => none

/-- The port after it has taken the claim of a claimant; an orphaned desk claim makes room for a deferred one (02 R30,
log entry 19). -/
def TablePort.served (p : TablePort) : Claimant → TablePort
  | .desk => { p with lastServed := .desk, desk := p.deskDeferred, deskDeferred := none, deskOrphan := false }
  | .link => { p with lastServed := .link, link := none }
  | .judge => { p with lastServed := .judge, judge := none }
  | .expiry => { p with lastServed := .expiry, expiry := none }

/-! ## Capacity (02 R28, R29) -/

/-- The DEPARTED entry that an eviction takes: the earliest due, and of two equal ones the lower item (02 R29). -/
def evictionVictim : List Entry → Option Entry
  | [] => none
  | e :: es =>
    match evictionVictim es with
    | none => if e.stage == .departed then some e else none
    | some v => if e.stage == .departed && decide (e.due ≤ v.due) then some e else some v

namespace State

/-- The state with the claimants' port replaced. -/
def setPort (s : State) (p : TablePort) : State := { s with port := p }

/-- The number of entries in a stage (02 R42). -/
def stageCount (s : State) (st : Stage) : Nat := s.table.entries.countP fun e => e.stage == st

/-- The table with room for one more entry, by eviction where it is full; none where it has no DEPARTED entry (02 R29). -/
def makeRoom (s : State) : Option State :=
  if s.table.entries.length < Config.tableCapacity then some s
  else match evictionVictim s.table.entries with
    | some v =>
      let s := s.dropEntry v.item
      some { s with table := { s.table with evicted := s.table.evicted + 1 } }
    | none => none

/-- A creating claim adds its entry, or is refused with TABLE_FULL, which raises the notice (02 R29). -/
def create (s : State) (answer : Code) (add : State → State) : State × Code :=
  match s.makeRoom with
  | some s' => (add s', answer)
  | none => (s.raise .tableFull, .tableFull)

/-! ## The transitions of an entry (02 section 2.2) -/

/-- The allowance of a request, or the hall default allowance (02 R19). -/
def allowanceOf (s : State) (o : ClaimOptions) : Nat := o.allowance.getD s.hall.allowance

/-- An entry as a creating claim writes it, in a stage with a due time (02 R19). -/
def newEntry (s : State) (i : Item) (src : Source) (o : ClaimOptions) (st : Stage) (due : Time) : Entry :=
  { item := i, stage := st, source := src, batch := o.batch, lanes := o.lanes, allowance := s.allowanceOf o,
    created := s.hallTime, due := due, exits := 0, lastLane := none }

/-- A PENDING entry is created (02 R20). -/
def createPending (s : State) (i : Item) (src : Source) (o : ClaimOptions) : State :=
  ((s.putEntry (s.newEntry i src o .pending (s.hallTime + seconds s.hall.pendingLimit))).raisePending src).notify i .pending

/-- A PENDING entry is restarted by its own source's HOLD: due, batch, lanes and allowance are written anew (02 R20). -/
def restartPending (s : State) (e : Entry) (o : ClaimOptions) : State :=
  s.putEntry { e with due := s.hallTime + seconds s.hall.pendingLimit, batch := o.batch, lanes := o.lanes,
                      allowance := s.allowanceOf o }

/-- A CLEARED entry is created (02 R21). -/
def createCleared (s : State) (i : Item) (src : Source) (o : ClaimOptions) : State :=
  (s.putEntry (s.newEntry i src o .cleared (s.hallTime + minutes (s.allowanceOf o)))).notify i .cleared

/-- A PENDING entry is confirmed; an allowance that is carried replaces the entry's (02 R22). -/
def confirmEntry (s : State) (e : Entry) (allowance : Option Nat) : State :=
  let a := allowance.getD e.allowance
  ((s.putEntry { e with stage := .cleared, allowance := a, due := s.hallTime + minutes a }).lowerPending e.source).notify
    e.item .cleared

/-- A CLEARED or DEPARTED entry is renewed (02 R23). -/
def renewEntry (s : State) (e : Entry) (o : ClaimOptions) : State :=
  (s.putEntry { e with stage := .cleared, allowance := s.allowanceOf o, due := s.hallTime + minutes (s.allowanceOf o),
                       batch := o.batch.or e.batch, lanes := o.lanes.or e.lanes }).notify e.item .cleared

/-- A PENDING entry leaves the table by cancel (02 R26). -/
def cancelEntry (s : State) (e : Entry) : State := ((s.dropEntry e.item).lowerPending e.source).notify e.item .pendingGone

/-- The end of the leeway that begins now (02 R24). -/
def leewayEnd (s : State) : Time := s.hallTime + minutes s.hall.leeway

/-- A settling claim on an absent item: a DEPARTED entry is created, none with a leeway of 0, and the record is settled
(02 R25, 03 R55). -/
def settleAbsent (s : State) (i : Item) (src : Source) (o : ClaimOptions) (r : AlarmRecord) : State × Code :=
  if s.hall.leeway = 0 then (s.settleRecord r.number, .settled)
  else
    let e := { s.newEntry i src o .departed s.leewayEnd with exits := 1, lastLane := some r.lane }
    s.create .settled fun s' => (s'.putEntry e).settleRecord r.number

/-- A settling claim on a PENDING entry: it becomes DEPARTED in place, or is removed with a leeway of 0 (02 R25, 03 R55). -/
def settlePending (s : State) (e : Entry) (allowance : Option Nat) (r : AlarmRecord) : State :=
  let s' :=
    if s.hall.leeway = 0 then s.dropEntry e.item
    else s.putEntry { e with stage := .departed, allowance := allowance.getD e.allowance, due := s.leewayEnd, exits := 1,
                             lastLane := some r.lane }
  ((s'.lowerPending e.source).notify e.item .pendingGone).settleRecord r.number

/-- A PASS on an entry: it becomes or stays DEPARTED, or is removed with a leeway of 0 (02 R24). -/
def departEntry (s : State) (e : Entry) (l : LaneId) : State :=
  if s.hall.leeway = 0 then s.dropEntry e.item
  else s.putEntry { e with stage := .departed, due := s.leewayEnd, exits := satSucc 255 e.exits, lastLane := some l }

/-! ## The claims of the requests (03 section 3.3) -/

/-- The claim's source is the entry's, or is source 0 (03 section 3.3). -/
def owns (src : Source) (e : Entry) : Bool := src == .link || src == e.source

/-- A HOLD claim (03 R48). -/
def holdClaim (s : State) (i : Item) (src : Source) (o : ClaimOptions) : State × Code :=
  match s.findEntry i with
  | none =>
    if decide (Config.pendingCapacity ≤ s.stageCount .pending) || decide (Config.pendingPerSource ≤ s.pendingCount src) then
      (s, .pendingFull)
    else s.create .done fun s' => s'.createPending i src o
  | some e =>
    match e.stage with
    | .pending => if e.source = src then (s.restartPending e o, .done) else (s, .heldElsewhere)
    | .cleared | .departed => (s, .alreadyCleared)

/-- An ISSUE claim (03 R49). -/
def issueClaim (s : State) (i : Item) (src : Source) (o : ClaimOptions) : State × Code :=
  match s.findEntry i with
  | none =>
    match s.settling i with
    | some r => s.settleAbsent i src o r
    | none => s.create .done fun s' => s'.createCleared i src o
  | some e =>
    match e.stage with
    | .pending =>
      if owns src e then
        match s.settling i with
        | some r => (s.settlePending e o.allowance r, .settled)
        | none => (s.confirmEntry e o.allowance, .done)
      else (s, .heldElsewhere)
    | .cleared | .departed => (s.renewEntry e o, .renewed)

/-- A CONFIRM claim (03 R50). -/
def confirmClaim (s : State) (i : Item) (src : Source) (o : ClaimOptions) : State × Code :=
  match s.findEntry i with
  | none =>
    match s.settling i with
    | some r => s.settleAbsent i src o r
    | none => (s, .noEntry)
  | some e =>
    match e.stage with
    | .pending =>
      if owns src e then
        match s.settling i with
        | some r => (s.settlePending e o.allowance r, .settled)
        | none => (s.confirmEntry e o.allowance, .done)
      else (s, .notOwner)
    | .cleared | .departed => (s, .alreadyCleared)

/-- A CANCEL claim (03 R51). -/
def cancelClaim (s : State) (i : Item) (src : Source) : State × Code :=
  match s.findEntry i with
  | none => (s, .noEntry)
  | some e =>
    match e.stage with
    | .pending => if owns src e then (s.cancelEntry e, .done) else (s, .notOwner)
    | .cleared | .departed => (s, .alreadyCleared)

/-- A DISCHARGE claim (03 R52). -/
def dischargeClaim (s : State) (i : Item) : State × Code :=
  match s.findEntry i with
  | none => (s, .noEntry)
  | some e =>
    match e.stage with
    | .pending => (s, .heldElsewhere)
    | .cleared | .departed => (s.dropEntry i, .done)

/-- A QUERY claim (03 R53). -/
def queryClaim (s : State) (i : Item) : State × Code := (s, if (s.findEntry i).isSome then .done else .noEntry)

/-- The claim of one LOAD item (03 R62). -/
def loadClaim (s : State) (i : Item) (o : ClaimOptions) : State × Code :=
  match s.findEntry i with
  | none => s.create .done fun s' => s'.createCleared i .link o
  | some e =>
    match e.stage with
    | .pending => (s, .heldElsewhere)
    | .cleared | .departed => (s.renewEntry e o, .renewed)

/-- The effect and the code of the claim of one item (03 section 3.3, R62). -/
def itemClaim (s : State) (k : ItemKind) (i : Item) (src : Source) (o : ClaimOptions) : State × Code :=
  match k with
  | .hold => s.holdClaim i src o
  | .issue => s.issueClaim i src o
  | .confirm => s.confirmClaim i src o
  | .cancel => s.cancelClaim i src
  | .discharge => s.dischargeClaim i
  | .query => s.queryClaim i
  | .load => s.loadClaim i o

/-- The result of an item whose claim left the state `s'` (03 R53, R57, R58); `s` is the state the claim found. -/
def claimResult (s s' : State) (k : ItemKind) (i : Item) (code : Code) : ItemResult :=
  { code := code, atGate := s.atGate i, alarmOpen := s'.alarmOpen i,
    entry := match k with
      | .query => s.findEntry i
      | .hold | .issue | .confirm | .cancel | .discharge | .load => none }

/-! ## Batch series (03 section 3.6) -/

/-- The entry that a claim of a series selects: the PENDING one of the selection with the lowest item above the cursor
(02 R32, 03 R59). -/
def batchEntry (s : State) (selected : Source) (batch : Nat) (cursor : Item) : Option Entry :=
  s.table.entries.find? fun e =>
    decide (cursor < e.item) && e.stage == .pending && e.source == selected && e.batch == some batch

/-- A CONFIRM BATCH from this source may confirm the entry: the checks of 01 R17 against the entry's key lookup. -/
def batchAllows (s : State) (requester : Source) (e : Entry) : Bool :=
  let (cls, column) := s.keyLookup e.item
  (s.rightOf requester column).issues && (cls != .restricted || s.inStanding requester)

/-- The claim of a series on the entry it has selected, and whether it acted on it (03 R60, R61). -/
def batchClaim (s : State) (k : BatchKind) (requester : Source) (e : Entry) : State × Bool :=
  match k with
  | .confirm => if s.batchAllows requester e then (s.confirmEntry e none, true) else (s, false)
  | .cancel => (s.cancelEntry e, true)

/-! ## WALK and CLEAR TABLE (02 R32, R41) -/

/-- The entries that a WALK returns (02 R32, 03 R63). -/
def walkEntries (s : State) (cursor : Item) : List Entry :=
  (s.table.entries.filter fun e => decide (cursor < e.item)).take Config.walkLimit

/-- Every lane is DISABLED (02 R41). -/
def allDisabled (s : State) : Bool := allLanes.all fun l => (s.lane l).state == .disabled

/-- A CLEAR TABLE claim: BUSY unless every lane is DISABLED; else the table is emptied and a PENDING_GONE notice is sent for
each PENDING entry in ascending item order (02 R41). -/
def clearTableClaim (s : State) : State × Code :=
  if s.allDisabled then
    let gone := (s.table.entries.filter fun e => e.stage == .pending).map fun e => TableMessage.notice e.item .pendingGone
    ({ s with table := { s.table with entries := [], pendingCounts := Vector.replicate 16 0 }
              judge := { s.judge with inbox := s.judge.inbox ++ gone } }, .done)
  else (s, .busy)

/-! ## JUDGE and expiry (02 R35, R37) -/

/-- A lane is allowed when the entry's lanes field is absent or holds it (02 R37). -/
def laneAllowed (e : Entry) (l : LaneId) : Bool :=
  match e.lanes with
  | none => true
  | some set => set.getLsbD l.val

/-- The table's answer to a JUDGE claim (02 R37). -/
def judgeAnswer (s : State) (i : Item) (l : LaneId) : JudgeAnswer :=
  match s.findEntry i with
  | none => .absent
  | some e =>
    match e.stage with
    | .pending => .pending
    | .cleared | .departed => if laneAllowed e l then .pass else .wrongLane

/-- The effect of a JUDGE claim on the table (02 R37). -/
def judgeEffect (s : State) (i : Item) (l : LaneId) : State :=
  match s.judgeAnswer i l, s.findEntry i with
  | .pass, some e => s.departEntry e l
  | _, _ => s

/-- The entry that the expiry process names: the earliest due time that has been reached, and of two equal ones the lower
item (02 R34). -/
def dueEntry (now : Time) : List Entry → Option Entry
  | [] => none
  | e :: es =>
    match dueEntry now es with
    | none => if e.due ≤ now then some e else none
    | some v => if decide (e.due ≤ now) && decide (e.due ≤ v.due) then some e else some v

/-- The expiry process offers its next claim when it has none waiting (02 R34). -/
def offerExpiry (s : State) : State :=
  match s.port.expiry, dueEntry s.hallTime s.table.entries with
  | none, some e => { s with port := { s.port with expiry := some e.item } }
  | _, _ => s

/-- An entry that is still due leaves the table by its stage (02 R27). -/
def expireEntry (s : State) (e : Entry) : State :=
  let s := s.dropEntry e.item
  match e.stage with
  | .pending =>
    (({ s with table := { s.table with lapsed := s.table.lapsed + 1 } }).lowerPending e.source).notify e.item .pendingGone
  | .cleared => { s with table := { s.table with expired := s.table.expired + 1 } }
  | .departed => s

/-- An expiry claim: void when the entry is absent or its due time lies in the future (02 R35). -/
def expiryEffect (s : State) (i : Item) : State :=
  match s.findEntry i with
  | some e => if e.due ≤ s.hallTime then s.expireEntry e else s
  | none => s

end State

end Sys2Proof.Machine
end

