-- ==== Sys2Proof/Machine/Replies.lean ====
section
/-! DEFINITION. Replies: the numbers of enumerated values, the records, and the reply bytes of every request (09 R172,
11 R193, R198, R199). -/

namespace Sys2Proof.Machine

/-! ## Numbers of enumerated values (11 R193) -/

/-- The number of a result code (03 R64). -/
def Code.number : Code → Byte
  | .done => 1
  | .renewed => 2
  | .settled => 3
  | .alreadyCleared => 4
  | .heldElsewhere => 5
  | .notOwner => 6
  | .noEntry => 7
  | .noRight => 8
  | .noStanding => 9
  | .referenceStock => 10
  | .notStock => 11
  | .pendingFull => 12
  | .tableFull => 13
  | .badItem => 14
  | .badValue => 15
  | .busy => 16
  | .badRequest => 17
  | .badFrame => 18

/-- The number of a class. -/
def ItemClass.number : ItemClass → Byte
  | .lending => 1
  | .reference => 2
  | .restricted => 3
  | .exempt => 4
  | .staff => 5

/-- The number of an entry stage. -/
def Stage.number : Stage → Byte
  | .pending => 1
  | .cleared => 2
  | .departed => 3

/-- The number of a passage stage. -/
def PassageStage.number : PassageStage → Byte
  | .tracking => 1
  | .inner => 2
  | .outer => 3
  | .sent => 4
  | .settled => 5
  | .entered => 6

/-- The number of a verdict. -/
def Verdict.number : Verdict → Byte
  | .pass => 1
  | .exempt => 2
  | .alarm => 3
  | .stray => 4
  | .shadow => 5

/-- The number of a first head. -/
def FirstHead.number : FirstHead → Byte
  | .inner => 1
  | .outer => 2
  | .both => 3

/-- The number of a judgement stage. -/
def JudgementStage.number : JudgementStage → Byte
  | .asking => 1
  | .heldAbsent => 2
  | .heldPending => 3
  | .verifying => 4
  | .done => 5

/-- The number of a reason. -/
def Reason.number : Reason → Byte
  | .absent => 1
  | .pending => 2
  | .reference => 3
  | .wrongLane => 4

/-- The number of an alarm class. -/
def AlarmClass.number : AlarmClass → Byte
  | .unissued => 1
  | .lapsed => 2
  | .reference => 3
  | .wrongLane => 4

/-- The number of an alarm state. -/
def AlarmState.number : AlarmState → Byte
  | .opened => 1
  | .acknowledged => 2
  | .settled => 3

/-- The number of a lane state. -/
def LaneState.number : LaneState → Byte
  | .disabled => 1
  | .starting => 2
  | .inService => 3
  | .single => 4
  | .stopped => 5

/-- The number of a head state. -/
def HeadState.number : HeadState → Byte
  | .unknown => 1
  | .ready => 2
  | .busy => 3
  | .faulted => 4

/-- A yes-or-no byte. -/
def yesNoByte (b : Bool) : Byte := if b then 1 else 0

/-- A value of one byte, or the byte that stands for its absence. -/
def byteOr {α : Type} (absent : Byte) (f : α → Byte) : Option α → Byte
  | some x => f x
  | none => absent

/-- A small number as one byte. -/
def small (n : Nat) : Byte := BitVec.ofNat 8 n

/-- An item that may be absent: 0 stands for absent. -/
def itemBytes (i : Option Item) : List Byte := beBytes 5 (i.getD 0)

/-- A hall time that may be absent: all ones stands for absent. -/
def timeBytes (t : Option Time) : List Byte := beBytes 6 (t.getD 0xFFFFFFFFFFFF)

/-- A 32-bit counter. -/
def countBytes (n : BitVec 32) : List Byte := beBytes 4 n.toNat

/-! ## Records (11 R198) -/

/-- The flags of an item (11 R193). -/
def ItemResult.flags (r : ItemResult) : Byte := (if r.atGate then 1 else 0) + (if r.alarmOpen then 2 else 0)

/-- An entry, 20 bytes. -/
def Entry.bytes (e : Entry) : List Byte :=
  [e.stage.number, small e.source.number] ++ beBytes 2 (e.batch.getD 0) ++ [e.lanes.getD 0, small e.allowance]
    ++ timeBytes (some e.created) ++ timeBytes (some e.due)
    ++ [small e.exits, byteOr 255 (fun l : LaneId => small l.val) e.lastLane]

/-- An alarm record, 35 bytes. -/
def AlarmRecord.bytes (r : AlarmRecord) : List Byte :=
  beBytes 2 r.number.toNat ++ [small r.lane.val] ++ itemBytes (some r.item) ++ itemBytes r.raw
    ++ [r.cls.number, yesNoByte r.unverified] ++ timeBytes (some r.raised) ++ timeBytes (some r.soundingEnd)
    ++ [r.state.number] ++ timeBytes r.closedAt ++ [byteOr 255 (fun s : Source => small s.number) r.closedBy]

/-- A passage without its judgement, 37 bytes; `held` says that a judgement follows. -/
def Passage.bytes (p : Passage) (held : Bool) : List Byte :=
  itemBytes (some p.item) ++ itemBytes p.raw ++ [small p.window.val, p.cls.number] ++ timeBytes (some p.firstSeen)
    ++ [p.firstHead.number, small p.innerTally, small p.outerTally] ++ timeBytes p.innerConfirmed
    ++ timeBytes p.outerConfirmed ++ [small p.missCount, p.stage.number, byteOr 0 Verdict.number p.verdict, yesNoByte held]

/-- A judgement, 12 bytes; `free` stands in the alarm number of a judgement that has none (log entry 10). -/
def Judgement.bytes (j : Judgement) (free : BitVec 16) : List Byte :=
  [j.stage.number, byteOr 0 Reason.number j.reason] ++ timeBytes j.graceEnd
    ++ [byteOr 0 Verdict.number j.verdict, yesNoByte j.alarmNumber.isSome] ++ beBytes 2 (j.alarmNumber.getD free).toNat

/-! ## Reply bytes (09 R172, 11 R198) -/

/-- The reply of an item request: the overall code, each item's code and flags, and the entries that a QUERY found.
LOAD is replied like a request of several items (10 R182, log entry 13). -/
def itemsReply (k : ItemKind) (results : List ItemResult) : List Byte :=
  let overall := match k, results with
    | .load, _ => Code.done
    | _, [r] => r.code
    | _, _ => Code.done
  [overall.number] ++ results.flatMap (fun r => [r.code.number, r.flags])
    ++ results.flatMap fun r => match r.entry with
      | some e => e.bytes
      | none => []

/-- A reply of a code alone. -/
def codeReply (c : Code) : List Byte := [c.number]

/-- A reply of DONE with a count. -/
def countReply (n : Nat) : List Byte := [Code.done.number, small n]

/-- The reply of a WALK: a count, then each item and its entry (11 R198). -/
def walkReply (es : List Entry) : List Byte :=
  countReply es.length ++ es.flatMap fun e => itemBytes (some e.item) ++ e.bytes

/-- The reply of a READ ALARMS: a count, then each record (11 R198). -/
def alarmsReply (rs : List AlarmRecord) : List Byte := countReply rs.length ++ rs.flatMap AlarmRecord.bytes

/-- The kinds present in a notice set, in list order (11 R198). -/
def NoticeSet.kinds (n : NoticeSet) : List Byte :=
  (if n.alarm then [1] else []) ++ (if n.fault then [2] else []) ++ (if n.logOverwrite then [3] else [])
    ++ (if n.crowd then [4] else []) ++ (if n.tableFull then [5] else [])

/-- The reply of a READ NOTICES (10 R190). -/
def noticesReply (n : NoticeSet) : List Byte := countReply n.kinds.length ++ n.kinds

/-- A passage with the judgement of its item where the lane owns one (10 R187). -/
def passageReply (s : State) (l : LaneId) (p : Passage) (free : BitVec 16) : List Byte :=
  match s.judge.entries.find? fun j => j.item == p.item && j.owner == l with
  | some j => p.bytes true ++ j.bytes free
  | none => p.bytes false

/-- The passages of a lane in list order, each with a free value of its own (10 R187, log entry 10). -/
def passagesReply (s : State) (l : LaneId) : List Passage → Nat → List Byte
  | [], _ => []
  | p :: ps, n => passageReply s l p (Config.freeAlarmNumber n) ++ passagesReply s l ps (n + 1)

/-- The reply of a READ LANE: the lane state, the count of passages, and each passage (10 R187). -/
def laneReply (s : State) (l : LaneId) : List Byte :=
  let x := s.lane l
  [Code.done.number, x.state.number, small x.passages.length] ++ passagesReply s l x.passages s.freeReads

/-- The counters of a head, 10 bytes (11 R199). -/
def HeadUnit.countBytes (u : HeadUnit) : List Byte :=
  beBytes 2 u.retries.toNat ++ Machine.countBytes u.stale ++ Machine.countBytes u.badChecks

/-- The counters of a lane, 48 bytes (11 R199). -/
def LaneCounts.bytes (c : LaneCounts) : List Byte :=
  countBytes c.cycles ++ countBytes c.abortedRounds ++ countBytes c.lossyRounds ++ countBytes c.entered
    ++ countBytes c.foreignCodes ++ countBytes c.crowdDrops ++ countBytes c.passes ++ countBytes c.exemptPasses
    ++ countBytes c.alarms ++ countBytes c.strays ++ countBytes c.shadows ++ countBytes c.dropped

/-- The two heads of every lane: lane 0 inner, lane 0 outer, lane 1 inner and so on (11 R199). -/
def State.heads (s : State) : List HeadUnit := allLanes.flatMap fun l => [(s.lane l).inner, (s.lane l).outer]

/-- The number of alarm records in a state (08 R163). -/
def State.recordCount (s : State) (st : AlarmState) : Nat := s.log.records.countP fun r => r.state == st

/-- The reply of a READ STATUS: 639 bytes after the overall code (10 R188, 11 R199). -/
def statusReply (s : State) : List Byte :=
  [Code.done.number]
    ++ (allLanes.map fun l => (s.lane l).state.number)
    ++ (s.heads.map fun u => u.state.number)
    ++ beBytes 2 (s.stageCount .pending) ++ beBytes 2 (s.stageCount .cleared) ++ beBytes 2 (s.stageCount .departed)
    ++ (s.table.pendingCounts.toList.map small)
    ++ [small (s.recordCount .opened), small (s.recordCount .acknowledged), small (s.recordCount .settled)]
    ++ beBytes 2 s.log.counter.toNat
    ++ countBytes s.table.lapsed ++ countBytes s.table.expired ++ countBytes s.table.evicted
    ++ (s.heads.flatMap HeadUnit.countBytes)
    ++ (allLanes.flatMap fun l => (s.lane l).counts.bytes)
    ++ countBytes s.log.overwrites ++ countBytes s.desk.abandoned ++ countBytes s.link.badFrames
    ++ countBytes s.link.lostBytes
    ++ (s.heads.map fun u => yesNoByte u.rollover)

/-! ## Forming a reply (09 R171, 10 R181) -/

/-- A service link frame: start byte, length of kind and body, kind, body, check value (11 R197, R198). -/
def linkFrame (kind : Byte) (body : List Byte) : List Byte :=
  let inner := beBytes 2 (body.length + 1) ++ [kind] ++ body
  [0x7E] ++ inner ++ crcBytes inner

/-- The number of an item request's kind (10 section 10.2). -/
def ItemKind.number : ItemKind → Byte
  | .hold => 1
  | .issue => 2
  | .confirm => 3
  | .cancel => 4
  | .discharge => 7
  | .query => 8
  | .load => 9

/-- The number of a batch request's kind (10 section 10.2). -/
def BatchKind.number : BatchKind → Byte
  | .confirm => 5
  | .cancel => 6

/-- The desk bus port has its reply: the clock is released and the first byte is supplied (09 R171, R173). -/
def DeskPort.replyWith (d : DeskPort) (bytes : List Byte) : DeskPort :=
  { d with state := .replying, work := .idle, reply := bytes, supplied := 1, dataOut := bytes.headD 0, clockHeld := false }

/-- The service link port has its reply and sends it (10 R181). -/
def LinkPort.replyWith (p : LinkPort) (kind : Byte) (bytes : List Byte) : LinkPort :=
  { p with state := .sending, work := .idle, reply := linkFrame kind bytes, sent := 0 }

/-- The work of a port's request has ended, and its reply is formed whole (09 R171, 10 R181). -/
def State.replyOn (s : State) (p : PortId) (kind : Byte) (bytes : List Byte) : State :=
  match p with
  | .desk => { s with desk := s.desk.replyWith bytes }
  | .link => { s with link := s.link.replyWith kind bytes }

end Sys2Proof.Machine
end

