-- ==== Sys2Proof/Machine/Ports.lean ====
section
/-! DEFINITION. Operations of the two ports (03, 09, 10): taking a frame, working a request item by item, offering claims and
taking their answers, and the desk bus conditions. -/

namespace Sys2Proof.Machine

/-! ## Working a request (03 R45, R59) -/

/-- The result of an item that its checks refused: both flags clear (03 R46). -/
def refusal (c : Code) : ItemResult := { code := c, atGate := false, alarmOpen := false, entry := none }

namespace State

/-- A request port offers a claim; a desk claim waits while an orphaned one is at the port (02 R30, log entry 19). -/
def offerClaim (s : State) (p : PortId) (c : Claim) : State :=
  match p with
  | .link => s.setPort { s.port with link := some c }
  | .desk =>
    if s.port.desk.isSome then s.setPort { s.port with deskDeferred := some c }
    else s.setPort { s.port with desk := some c }

/-- The items of a request from here on: refused ones get their results, the first that passes offers its claim, and after
the last the reply is formed (03 R45, R46).
One step checks all of them, so no SET WINDOW, SET RIGHTS or standing end falls between two of these checks; which of two is
taken first is left open by 01 R9, R11 and R14 (the model's choice, log entry 38). -/
def workItems (s : State) (p : PortId) (k : ItemKind) (src : Source) (o : ClaimOptions) :
    List RawItem → List ItemResult → State
  | [], results => s.replyOn p k.number (itemsReply k results)
  | x :: rest, results =>
    match s.checkItem k src x with
    | .error c => s.workItems p k src o rest (results ++ [refusal c])
    | .ok n => (s.offerClaim p (.item k n.item src (x.options k o))).setWork p (.items k src o rest results)

/-- An item request begins: its options are tested, and its items are taken (03 R44, R45). -/
def beginItems (s : State) (p : PortId) (k : ItemKind) (src : Source) (o : RawOptions) (xs : List RawItem) : State :=
  match o.tested with
  | some options => s.workItems p k src options xs []
  | none => s.replyOn p k.number (itemsReply k (xs.map fun _ => refusal .badValue))

/-- A batch request begins: its batch and source are tested, and its series starts with the cursor at 0 (03 R44, R59). -/
def beginBatch (s : State) (p : PortId) (k : BatchKind) (src : Source) (batch : Nat) (selected : Option Nat) : State :=
  match batchSelection src selected with
  | some sel =>
    if batch = 0 then s.replyOn p k.number (codeReply .badValue)
    else (s.offerClaim p (.batch k src sel batch 0)).setWork p (.batch k 0)
  | none => s.replyOn p k.number (codeReply .badValue)

/-- The taken request of a port is worked by `f` where its source, kind and content are what the command is about; a command
about another request than the one that is taken does not occur (log entry 1). -/
def serve (s : State) (p : PortId) (f : Source → Byte → Request → Option State) : State :=
  match s.workOf p with
  | .taken src kind r => (f src kind r).getD s
  | .idle | .items _ _ _ _ _ | .batch _ _ | .walk | .clearTable => s

/-- The taken item request of a kind is worked (03 R46). -/
def serveItems (s : State) (p : PortId) (k : ItemKind) : State :=
  s.serve p fun src _ r => match r with
    | .items k' o xs => if k' = k then some (s.beginItems p k src o xs) else none
    | _ => none

/-- The taken batch request of a kind is worked (03 R59). -/
def serveBatch (s : State) (p : PortId) (k : BatchKind) : State :=
  s.serve p fun src _ r => match r with
    | .batch k' b sel => if k' = k then some (s.beginBatch p k src b sel) else none
    | _ => none

/-! ## Answers of claims -/

/-- A request claim of a port is taken: it is no longer at the port, and its claimant is the last served (02 R30). -/
def takeFrom (s : State) (p : PortId) : State :=
  match p with
  | .desk => s.setPort (s.port.served .desk)
  | .link => s.setPort (s.port.served .link)

/-- The answer of a port's claim reaches its request, unless a soft restart has stopped the request (02 R43, 03 R66). -/
def answered (s : State) (p : PortId) : Bool :=
  match p with
  | .desk => !s.port.deskOrphan
  | .link => true

/-- The table port takes an item's claim of a kind, when that is the next claim in the ring; the item has its result and the
next item is taken (02 R30, 03 R45). -/
def takeItemClaim (s : State) (k : ItemKind) : State :=
  match s.port.nextRequest with
  | some (p, .item k' i src o) =>
    if k' = k then
      let live := s.answered p
      let (s', code) := (s.takeFrom p).itemClaim k i src o
      match live, s'.workOf p with
      | true, .items _ _ options rest results =>
        s'.workItems p k src options rest (results ++ [claimResult s s' k i code])
      | _, _ => s'
    else s
  | _ => s

/-- The series of a batch request goes on after a claim, or ends at the count of 255 (03 R59). -/
def continueBatch (s : State) (p : PortId) (k : BatchKind) (next : Claim) (count : Nat) : State :=
  if Config.batchLimit ≤ count then s.replyOn p k.number (countReply count)
  else (s.offerClaim p next).setWork p (.batch k count)

/-- The table port takes a claim of a batch series of a kind, when that is the next claim in the ring (02 R32, 03 R59). -/
def takeBatchClaim (s : State) (k : BatchKind) : State :=
  match s.port.nextRequest with
  | some (p, .batch k' requester sel batch cursor) =>
    if k' = k then
      let live := s.answered p
      let t := s.takeFrom p
      match t.batchEntry sel batch cursor with
      | none =>
        match live, t.workOf p with
        | true, .batch _ count => t.replyOn p k.number (countReply count)
        | _, _ => t
      | some e =>
        let (t', acted) := t.batchClaim k requester e
        match live, t'.workOf p with
        | true, .batch _ count =>
          t'.continueBatch p k (.batch k requester sel batch e.item) (if acted then count + 1 else count)
        | _, _ => t'
    else s
  | _ => s

/-- The table port takes a WALK claim, when that is the next claim in the ring (02 R32). -/
def takeWalkClaim (s : State) : State :=
  match s.port.nextRequest with
  | some (p, .walk cursor) => (s.takeFrom p).replyOn p 10 (walkReply (s.walkEntries cursor))
  | _ => s

/-- The table port takes a CLEAR TABLE claim, when that is the next claim in the ring (02 R41). -/
def takeClearTableClaim (s : State) : State :=
  match s.port.nextRequest with
  | some (p, .clearTable) =>
    let (s', code) := (s.takeFrom p).clearTableClaim
    s'.replyOn p 11 (codeReply code)
  | _ => s

/-- The table port takes the JUDGE claim, when it is next in the ring: the entry is acted on and the answer is sent
(02 R37). -/
def takeJudgeClaim (s : State) : State :=
  match s.port.turn, s.port.judge with
  | some .judge, some (i, l) =>
    let t := s.setPort (s.port.served .judge)
    let answer := t.judgeAnswer i l
    let t := t.judgeEffect i l
    { t with judge := { t.judge with answer := some (i, true), inbox := t.judge.inbox ++ [.answer i answer] } }
  | _, _ => s

/-- The table port takes the expiry claim, when it is next in the ring, and the expiry process looks again (02 R34, R35). -/
def takeExpiryClaim (s : State) : State :=
  match s.port.turn, s.port.expiry with
  | some .expiry, some i => ((s.setPort (s.port.served .expiry)).expiryEffect i).offerExpiry
  | _, _ => s

end State

/-! ## The desk bus port (09) -/

/-- The request that a desk frame has brought (09 R168): overlong or with no kind, it is refused whole; an empty buffer is no
request. -/
def DeskPort.request (d : DeskPort) : Option (Source × Byte × Request) :=
  match d.buffer with
  | src :: kind :: body =>
    some ((Source.ofNumber src.toNat).getD .link, kind, if d.overlong then .bad else parseDeskRequest kind body)
  | [src] => some ((Source.ofNumber src.toNat).getD .link, 0, .bad)
  | [] => none

/-- The port enters RECEIVING with an empty buffer, having acknowledged its address (09 R167). -/
def DeskPort.receive (d : DeskPort) : DeskPort :=
  { d with state := .receiving, buffer := [], overlong := false, work := .idle, reply := [], supplied := 0, acked := true,
           dataOut := 0xFF }

/-- The port does not follow the frame in progress (09 R165).
The overlong mark is cleared here, on every entry into IGNORING; 09 R166, R169 and R176 do not say whether it is (the model's
choice, log entry 39). -/
def DeskPort.ignore (d : DeskPort) : DeskPort :=
  { d with state := .ignoring, buffer := [], overlong := false, work := .idle, reply := [], supplied := 0, acked := false,
           dataOut := 0xFF, clockHeld := false }

/-- The port is WORKING and holds the clock (09 R168): the request of the buffer is taken and the buffer is empty, or, where
there is no request, nothing is taken and the reply BAD_REQUEST is already formed.
No byte is on the data line, and one that a reply had left there is released (the model's choice, log entry 15).
The overlong mark stays as it was, through REPLYING and SPENT (the model's choice, log entry 39). -/
def DeskPort.take (d : DeskPort) : DeskPort :=
  let working : DeskPort := { d with state := .working, buffer := [], supplied := 0, acked := true, dataOut := 0xFF,
                                     clockHeld := true }
  match d.request with
  | some (src, kind, r) => { working with work := .taken src kind r, reply := [] }
  | none => { working with work := .idle, reply := codeReply .badRequest }

/-- The port is WORKING with its reply already formed: a read that came with no request (09 R168). -/
def DeskPort.replyFormed (d : DeskPort) : Bool := d.state == .working && d.work == .idle && !d.reply.isEmpty

/-- A port has its reply formed and its hold is to end: only the desk bus port holds a clock. -/
def State.replyFormed (s : State) (p : PortId) : Bool := p == .desk && s.desk.replyFormed

/-- The hold of a reply that is already formed ends at once (09 R171): whatever the bus does next finds the port REPLYING. -/
def DeskPort.holdEnded (d : DeskPort) : DeskPort := if d.replyFormed then d.replyWith d.reply else d

/-- The port returns to IDLE at a stop condition (09 R170, R173). -/
def DeskPort.stop (d : DeskPort) : DeskPort :=
  { d with state := .idle, buffer := [], overlong := false, work := .idle, reply := [], supplied := 0, acked := false,
           dataOut := 0xFF }

/-- A request that was not taken is counted (09 R169, R170). -/
def DeskPort.abandon (d : DeskPort) : DeskPort := { d with abandoned := d.abandoned + 1 }

/-- An address byte read with no request in the port (09 R165, R168); a read clears an overlong mark that an earlier frame left
(the model's choice, log entry 39). -/
def DeskPort.firstAddress (d : DeskPort) (address : BitVec 7) (direction : Direction) : DeskPort :=
  if address = d.address then
    match direction with
    | .write => d.receive
    | .read => ({ d with buffer := [], overlong := false } : DeskPort).take
  else d.ignore

/-- A repeated start in RECEIVING that does not take the request (09 R169). -/
def DeskPort.abandonAddress (d : DeskPort) (address : BitVec 7) (direction : Direction) : DeskPort :=
  d.abandon.firstAddress address direction

/-- The repeated start takes the request of the buffer: the port's address with the read direction (09 R168). -/
def DeskPort.takes (d : DeskPort) (address : BitVec 7) (direction : Direction) : Bool :=
  address == d.address && direction == .read

/-- A start or repeated start and its address byte (09 R165, R168, R169, R175).
In IDLE any address byte begins a frame, also that of a repeated start in a frame that was in progress at a power-on reset; 09 R177
does not say whether that is the first start condition after the reset (the model's choice, log entry 41). -/
def DeskPort.addressByte (d : DeskPort) (address : BitVec 7) (direction : Direction) : DeskPort :=
  let d := d.holdEnded
  match d.state with
  | .idle | .replying | .spent => d.firstAddress address direction
  | .receiving => if d.takes address direction then d.take else d.abandonAddress address direction
  | .ignoring => { d with acked := false }
  | .working => d

/-- A byte written by the desk (09 R167). -/
def DeskPort.writeByte (d : DeskPort) (b : Byte) : DeskPort :=
  match d.state with
  | .receiving =>
    if d.buffer.isEmpty then
      if 1 ≤ b.toNat ∧ b.toNat ≤ 15 then { d with buffer := [b], acked := true } else d.ignore
    else if d.buffer.length < Config.deskBufferBytes then { d with buffer := d.buffer ++ [b], acked := true }
    else { d with overlong := true, acked := false }
  | .ignoring => { d with acked := false }
  | .idle | .working | .replying | .spent => d

/-- A stop condition (09 R170, R173). -/
def DeskPort.stopCondition (d : DeskPort) : DeskPort :=
  let d := d.holdEnded
  match d.state with
  | .receiving => d.abandon.stop
  | .replying | .spent | .ignoring => d.stop
  | .idle | .working => d

/-- The desk acknowledges a reply byte, and the port supplies the next, or 0 once the reply is used up (09 R173). -/
def DeskPort.replyByte (d : DeskPort) : DeskPort :=
  let d := d.holdEnded
  match d.state with
  | .replying => { d with dataOut := d.reply.getD d.supplied 0, supplied := satSucc d.reply.length d.supplied }
  | .idle | .receiving | .working | .spent | .ignoring => d

/-- The desk declines a reply byte: the data line is released (09 R173). -/
def DeskPort.replyDeclined (d : DeskPort) : DeskPort :=
  let d := d.holdEnded
  match d.state with
  | .replying => { d with state := .spent, dataOut := 0xFF }
  | .idle | .receiving | .working | .spent | .ignoring => d

/-- The port's soft restart (09 R176). -/
def DeskPort.softRestart (d : DeskPort) : DeskPort :=
  match d.state with
  | .idle => d
  | .receiving | .working | .replying | .spent | .ignoring => d.ignore

/-! ## The service link port (10) -/

/-- A bad frame is answered BAD_FRAME and counted (10 R180); its bytes stay in the frame through SENDING (the model's choice, log
entry 40). -/
def LinkPort.badFrame (p : LinkPort) : LinkPort :=
  ({ p with badFrames := p.badFrames + 1 }).replyWith 0 (codeReply .badFrame)

/-- The port's own counters as a command is taken: CLEAR COUNTS zeroes them at that moment (10 R189). -/
def LinkPort.countersAtTaking (p : LinkPort) : Request → LinkPort
  | .clearCounts => { p with badFrames := 0, lostBytes := 0 }
  | _ => p

/-- A good frame is taken as a command (10 R181); its bytes stay in the frame through WORKING and SENDING (the model's choice, log
entry 40). -/
def LinkPort.goodFrame (p : LinkPort) (kind : Byte) (body : List Byte) : LinkPort :=
  { p.countersAtTaking (parseLinkRequest kind body) with
      state := .working, work := .taken .link kind (parseLinkRequest kind body) }

/-- The frame received so far is looked at: bad, good, or not yet whole (10 R180). -/
def LinkPort.examine (p : LinkPort) : LinkPort :=
  match p.frame with
  | l1 :: l0 :: rest =>
    let length := beNat [l1, l0]
    if length = 0 ∨ Config.longestCommand < length then p.badFrame
    else if rest.length < length + 2 then p
    else if rest.drop length = crcBytes (l1 :: l0 :: rest.take length) then
      match rest.take length with
      | kind :: body => p.goodFrame kind body
      | [] => p.badFrame
    else p.badFrame
  | _ => p

/-- The port takes a byte, in HUNTING or RECEIVING, at hall time `now` (10 R180). -/
def LinkPort.takeByte (p : LinkPort) (now : Time) (b : Byte) : LinkPort :=
  match p.state with
  | .hunting => if b = 0x7E then { p with state := .receiving, frame := [], quietSince := now } else p
  | .receiving => ({ p with frame := p.frame ++ [b], quietSince := now } : LinkPort).examine
  | .working | .sending => p

/-- The port takes bytes in HUNTING and RECEIVING (10 R179). -/
def LinkState.takesBytes : LinkState → Bool
  | .hunting | .receiving => true
  | .working | .sending => false

/-- The port takes the waiting bytes in their order for as long as it takes bytes; the rest stay in the buffer (10 R179). -/
def LinkPort.pump (now : Time) : List Byte → LinkPort → LinkPort
  | [], p => { p with buffer := [] }
  | b :: bs, p => if p.state.takesBytes then LinkPort.pump now bs (p.takeByte now b) else { p with buffer := b :: bs }

/-- A byte arrives on RXD: it is lost when the buffer is full, else it joins the buffer and is taken if it can be (10 R179). -/
def LinkPort.byteArrives (p : LinkPort) (now : Time) (b : Byte) : LinkPort :=
  if Config.receiveBufferBytes ≤ p.buffer.length then { p with lostBytes := p.lostBytes + 1 }
  else LinkPort.pump now (p.buffer ++ [b]) p

/-- The frame in RECEIVING has been cut short by silence (10 R180). -/
def LinkPort.silent (p : LinkPort) (now : Time) : Bool :=
  p.state == .receiving && p.buffer.isEmpty && decide (p.quietSince + Config.frameSilence ≤ now)

/-- The last byte of the reply has left the line: HUNTING, and the waiting bytes are taken (10 R179, R181).
The frame, whose bytes have stood there through WORKING and SENDING, is emptied here; what it holds once no frame is being
received is left open by 10 R179 and R180 (the model's choice, log entry 40). -/
def LinkPort.replyLeft (p : LinkPort) (now : Time) : LinkPort :=
  LinkPort.pump now p.buffer { p with state := .hunting, frame := [], sent := p.reply.length }

end Sys2Proof.Machine
end

