-- ==== Sys2Proof/Machine/Claims.lean ====
section
/-! DEFINITION. The claims as the table port takes them (02 R30, R32).

Each is about the claim that the ring makes next: where that claim is of another kind, or no claim waits, the step does not
occur and nothing changes (log entry 1). -/

namespace Sys2Proof.Machine

/-- HOLD CLAIM (03 R48). -/
def execHoldClaim (s : State) : StepOutcome := .next (s.takeItemClaim .hold)

/-- ISSUE CLAIM (03 R49); a settled alarm may change a lane's outputs. -/
def execIssueClaim (s : State) : StepOutcome := .next (s.takeItemClaim .issue).drive

/-- CONFIRM CLAIM (03 R50); a settled alarm may change a lane's outputs. -/
def execConfirmClaim (s : State) : StepOutcome := .next (s.takeItemClaim .confirm).drive

/-- CANCEL CLAIM (03 R51). -/
def execCancelClaim (s : State) : StepOutcome := .next (s.takeItemClaim .cancel)

/-- CONFIRM BATCH CLAIM (03 R60). -/
def execConfirmBatchClaim (s : State) : StepOutcome := .next (s.takeBatchClaim .confirm)

/-- CANCEL BATCH CLAIM (03 R61). -/
def execCancelBatchClaim (s : State) : StepOutcome := .next (s.takeBatchClaim .cancel)

/-- DISCHARGE CLAIM (03 R52). -/
def execDischargeClaim (s : State) : StepOutcome := .next (s.takeItemClaim .discharge)

/-- QUERY CLAIM (03 R53). -/
def execQueryClaim (s : State) : StepOutcome := .next (s.takeItemClaim .query)

/-- LOAD CLAIM (03 R62). -/
def execLoadClaim (s : State) : StepOutcome := .next (s.takeItemClaim .load)

/-- WALK CLAIM (03 R63). -/
def execWalkClaim (s : State) : StepOutcome := .next s.takeWalkClaim

/-- CLEAR TABLE CLAIM (02 R41). -/
def execClearTableClaim (s : State) : StepOutcome := .next s.takeClearTableClaim

/-- JUDGE (02 R37). -/
def execJudge (s : State) : StepOutcome := .next s.takeJudgeClaim

/-- EXPIRY CLAIM (02 R35). -/
def execExpiryClaim (s : State) : StepOutcome := .next s.takeExpiryClaim

end Sys2Proof.Machine
end

