-- ==== Sys2Proof/Machine/Heads.lean ====
section
/-! DEFINITION. The head links (04, 05): messages that arrive, attempts that time out, and ABORT. -/

namespace Sys2Proof.Machine

namespace State

/-- A report or IDENT REPLY is discarded as stale and counted; nothing else changes (04 R70, R74). -/
def countStale (s : State) (l : LaneId) (h : HeadPos) : State := s.modHead l h fun u => { u with stale := u.stale + 1 }

/-- An IDENT REPLY of a position, taken when an IDENT is outstanding (04 R70, R76). -/
def takeIdent (s : State) (l : LaneId) (h position : HeadPos) : State :=
  if ((s.lane l).head h).identOut then
    if position = h then (s.modHead l h HeadUnit.answered).leaveStarting l
    else (s.modHead l h fun u => { u with state := .faulted, outstanding := none }).leaveStarting l
  else s.countStale l h

/-- A ROUND REPORT, taken when its number is the one awaited (04 R70, 05 R87, R88). -/
def takeRound (s : State) (l : LaneId) (h : HeadPos) (q : BitVec 8) (overflow : Bool) (codes : List TagCode) : State :=
  if ((s.lane l).head h).awaited = some (true, q) then
    (s.modHead l h HeadUnit.answered).roundEnded l { head := h, codes := codes, lossy := overflow, endTime := s.hallTime }
  else s.countStale l h

/-- A PROBE REPORT, taken when its number is the one awaited (04 R70, 05 R100). -/
def takeProbe (s : State) (l : LaneId) (h : HeadPos) (q : BitVec 8) (found : Bool) : State :=
  if ((s.lane l).head h).awaited = some (false, q) then
    let s := s.modHead l h HeadUnit.answered
    if found then s.probeFound l h else s.probeHeadEnded l h false
  else s.countStale l h

/-- A discarded message is counted, and fails the attempt that is outstanding on its head (04 R68). -/
def discardMessage (s : State) (l : LaneId) (h : HeadPos) : State :=
  let s := s.modHead l h fun u => { u with badChecks := u.badChecks + 1 }
  if ((s.lane l).head h).outstanding.isSome then s.attemptFailed l h else s

/-- The round timeout of the outstanding attempt has passed (04 R71). -/
def timedOut (s : State) (l : LaneId) (h : HeadPos) : Bool :=
  match ((s.lane l).head h).outstanding with
  | some a => decide (a.sentAt + (s.lane l).settings.roundTimeout ≤ s.hallTime)
  | none => false

/-- An owed ABORT is sent with the head's sequence number, and a probe that waited for it starts (04 R77, 05 R99).
It is sent in whatever state the lane has come to: one that is owed as the lane becomes DISABLED still goes out, which 04 R78
and R83 leave open (the model's choice, log entry 7). -/
def sendAbort (s : State) (l : LaneId) (h : HeadPos) : State :=
  if ((s.lane l).head h).abortOwed then
    let s := s.modHead l h HeadUnit.sendOwed
    if s.holds l then s.startProbe l else s
  else s

end State

/-- IDENT REPLY: a message that is one is taken or found stale (04 R76). -/
def execIdentReply (l : LaneId) (h : HeadPos) (message : List Byte) (s : State) : StepOutcome :=
  .next (match parseHeadMessage message with
    | some (.ident position) => (s.takeIdent l h position).drive
    | _ => s)

/-- ROUND REPORT: a message that is one is taken or found stale (04 R70). -/
def execRoundReport (l : LaneId) (h : HeadPos) (message : List Byte) (s : State) : StepOutcome :=
  .next (match parseHeadMessage message with
    | some (.round q overflow codes) => s.takeRound l h q overflow codes
    | _ => s)

/-- PROBE REPORT: a message that is one is taken or found stale (05 R100). -/
def execProbeReport (l : LaneId) (h : HeadPos) (message : List Byte) (s : State) : StepOutcome :=
  .next (match parseHeadMessage message with
    | some (.probe q found) => s.takeProbe l h q found
    | _ => s)

/-- HEAD MESSAGE DISCARDED: a message that fails a test of 11 R196 (04 R68). -/
def execHeadMessageDiscarded (l : LaneId) (h : HeadPos) (message : List Byte) (s : State) : StepOutcome :=
  .next (match parseHeadMessage message with
    | none => (s.discardMessage l h).drive
    | some _ => s)

/-- ROUND TIMEOUT: the attempt outstanding on the head has failed (04 R71). -/
def execRoundTimeout (l : LaneId) (h : HeadPos) (s : State) : StepOutcome :=
  .next (if s.timedOut l h then (s.attemptFailed l h).drive else s)

/-- ABORT: the ABORT that the head is owed is sent (04 R77). -/
def execAbort (l : LaneId) (h : HeadPos) (s : State) : StepOutcome := .next (s.sendAbort l h)

end Sys2Proof.Machine
end

