-- ==== Sys2Proof/Machine/Deadlines.lean ====
section
/-! DEFINITION. Deadlines: due times, standing ends, sounding ends and guard ends, the order in which an idle part takes the
deadlines that have been reached, and the passing of one millisecond (00 Hall time, log entries 2 and 3). -/

namespace Sys2Proof.Machine

namespace State

/-- A desk's standing end has been reached (01 R14). -/
def standingOver (s : State) (d : DeskId) : Bool :=
  match s.standing[d] with
  | some r => decide (r.ends ≤ s.hallTime)
  | none => false

/-- The guard end of a group's arbiter has been reached and not taken (05 R93, R95). -/
def guardOver (s : State) (g : GroupId) : Bool :=
  (s.arbiter g).band == .guarding && decide ((s.arbiter g).guardEnd ≤ s.hallTime)

/-- The OPEN record of a number whose sounding end has been reached (08 R159). -/
def soundedOut (s : State) (number : BitVec 16) : Option AlarmRecord :=
  s.log.records.find? fun r => r.number == number && r.state == .opened && decide (r.soundingEnd ≤ s.hallTime)

/-- The grace end of a HELD_ABSENT judgement has been reached (07 R139). -/
def graceOver (now : Time) (j : Judgement) : Bool :=
  j.stage == .heldAbsent && decide (j.graceEnd.getD (now + 1) ≤ now)

end State

/-- DUE TIME REACHED: the expiry process offers a claim for the earliest due entry (02 R34). -/
def execDueTimeReached (s : State) : StepOutcome := .next s.offerExpiry

/-- STANDING END: a desk's standing ends (01 R14). -/
def execStandingEnd (d : DeskId) (s : State) : StepOutcome := .next (if s.standingOver d then s.setStanding d none else s)

/-- SOUNDING END: the lane's sounder stops if no other OPEN record still sounds it, and its lamp follows (08 R159, R161). -/
def execSoundingEnd (number : BitVec 16) (s : State) : StepOutcome :=
  .next (match s.soundedOut number with
    | some r => s.driveLane r.lane
    | none => s)

/-- GUARD END: the arbiter grants the band or becomes FREE (05 R95). -/
def execGuardEnd (g : GroupId) (s : State) : StepOutcome := .next (if s.guardOver g then s.takeGuardEnd g else s)

/-! ## The hall timer -/

/-- One millisecond of hall time passes (00 Hall time). -/
def State.tick (s : State) : State := { s with hallTime := (s.hallTime + 1) % hallModulus }

/-- The command that works a taken request (10 section 10.2). -/
def Request.command (p : PortId) : Request → Instr
  | .items .hold _ _ => .hold p
  | .items .issue _ _ => .issue p
  | .items .confirm _ _ => .confirm p
  | .items .cancel _ _ => .cancel p
  | .items .discharge _ _ => .discharge p
  | .items .query _ _ => .query p
  | .items .load _ _ => .load
  | .batch .confirm _ _ => .confirmBatch p
  | .batch .cancel _ _ => .cancelBatch p
  | .walk _ => .walk
  | .clearTable => .clearTable
  | .standing _ => .standing
  | .endStanding => .endStanding
  | .ackLane _ => .ackLane p
  | .restartLane _ => .restartLane p
  | .setHall _ => .setHall
  | .setWindow _ => .setWindow
  | .setRights _ _ _ => .setRights
  | .setLane _ => .setLane
  | .enableLane _ => .enableLane
  | .disableLane _ => .disableLane
  | .readLane _ => .readLane
  | .readStatus => .readStatus
  | .clearCounts => .clearCounts
  | .readAlarms _ => .readAlarms
  | .ackAlarm _ => .ackAlarm
  | .clearLog => .clearLog
  | .readNotices => .readNotices
  | .restart => .restart
  | .bad => .badRequest p

namespace State

/-- The command that works the request a port has taken and not begun, or that ends a read which came with no request. -/
def takenCommand (s : State) (p : PortId) : Option Instr :=
  if s.replyFormed p then some (.badRequest p)
  else match s.workOf p with
  | .taken _ _ r => some (r.command p)
  | .idle | .items _ _ _ _ _ | .batch _ _ | .walk | .clearTable => none

/-- A guard end that has been reached. -/
def dueGuard (s : State) : Option Instr := (allGroups.find? s.guardOver).map .guardEnd

/-- A round timeout that has passed. -/
def dueTimeout (s : State) : Option Instr :=
  ((allLanes.find? fun l => s.timedOut l .inner).map fun l => Instr.roundTimeout l .inner).or
    ((allLanes.find? fun l => s.timedOut l .outer).map fun l => Instr.roundTimeout l .outer)

/-- A standing end that has been reached. -/
def dueStanding (s : State) : Option Instr := (allDesks.find? s.standingOver).map .standingEnd

/-- A grace end that has been reached; of several, that of the judgement that was created first (the model's choice, log
entry 3). -/
def dueGrace (s : State) : Option Instr := (s.judge.entries.find? (graceOver s.hallTime)).map fun j => .graceEnd j.item

/-- A sounding end that has been reached and whose lane's sounder line is to be released. -/
def dueSounding (s : State) : Option Instr :=
  (s.log.records.find? fun r =>
    r.state == .opened && decide (r.soundingEnd ≤ s.hallTime) && (s.lane r.lane).sounder && !s.sounds r.lane).map
    fun r => .soundingEnd r.number

/-- A due time that has been reached, while the expiry process has no claim waiting. -/
def dueExpiry (s : State) : Option Instr :=
  if s.port.expiry.isNone && (dueEntry s.hallTime s.table.entries).isSome then some .dueTimeReached else none

/-- The silence that cuts a service frame short. -/
def dueSilence (s : State) : Option Instr := if s.link.silent s.hallTime then some .frameTimeout else none

/-- What an idle part takes before another millisecond passes: a request that has been taken, or a deadline that has been
reached, the first of this order (log entry 3). -/
def dueEvent (s : State) : Option Instr :=
  (s.takenCommand .desk).or <| (s.takenCommand .link).or <| s.dueGuard.or <| s.dueTimeout.or <| s.dueStanding.or <|
    s.dueGrace.or <| s.dueSounding.or <| s.dueExpiry.or s.dueSilence

end State

end Sys2Proof.Machine
end

