-- ==== Sys2Proof/Machine/Tracker.lean ====
section
/-! DEFINITION. Operations of the passage trackers (06): the seven steps of a cycle report, and verdicts. -/

namespace Sys2Proof.Machine

/-! ## Steps 1 and 2: filter and normalise (06 R109, R110) -/

/-- A code is the hall's own: its mark is the hall mark and its item is not 0 (01 R2, 06 R109). -/
def ownCode (hallMark : Nat) (c : TagCode) : Bool := c.mark == hallMark && c.item != 0

/-- A list without the later copies of any element that `same` finds in an earlier place. -/
def keepFirst {α : Type} (same : α → α → Bool) : List α → List α
  | [] => []
  | x :: xs => x :: (keepFirst same xs).filter fun y => !same x y

/-- A half that saw nothing, which stands for the absent half of a SINGLE-form report (06 R109). -/
def absentHalf (h : HeadPos) : Half := { head := h, codes := [], lossy := false, endTime := 0 }

/-- The sightings of a half: its own codes without copies, normalised, one for each normalised item (06 R109, R110). -/
def State.sightings (s : State) (half : Half) : List Normal :=
  keepFirst (fun a b => a.item == b.item)
    ((keepFirst (fun a b => a == b) (half.codes.filter (ownCode s.hall.hallMark))).map fun c => s.normalise c.item)

/-- The foreign codes of a half, each listing counted (06 R109). -/
def foreignCount (hallMark : Nat) (half : Half) : Nat := half.codes.countP fun c => !ownCode hallMark c

/-- A cycle report as the tracker works it. -/
structure Sweep where
  form : Form
  /-- end times of the inner and the outer half -/
  innerEnd : Time
  outerEnd : Time
  inner : List Normal
  outer : List Normal
  /-- some half is lossy -/
  lossy : Bool
  deriving DecidableEq, Repr

/-- The report filtered and normalised (06 R108 steps 1 and 2). -/
def State.sweep (s : State) (r : CycleReport) : Sweep :=
  let inner := r.inner.getD (absentHalf .inner)
  let outer := r.outer.getD (absentHalf .outer)
  { form := r.form, innerEnd := inner.endTime, outerEnd := outer.endTime, inner := s.sightings inner,
    outer := s.sightings outer, lossy := inner.lossy || outer.lossy }

/-- The sightings of a half hold the item. -/
def sees (sightings : List Normal) (i : Item) : Bool := sightings.any fun n => n.item == i

/-! ## Working one report -/

/-- A passage while a report is worked: its confirmations made in this report, whether this report created it, and whether
it has been found leaving. -/
structure Tracked where
  p : Passage
  newInner : Bool
  newOuter : Bool
  fresh : Bool
  leaving : Bool
  deriving DecidableEq, Repr

/-- Step 3: the tallies, the confirmations (06 R111) and the miss count (06 R112) of a passage. -/
def updatePassage (count : Nat) (w : Sweep) (p : Passage) : Tracked :=
  let seenInner := sees w.inner p.item
  let seenOuter := sees w.outer p.item
  let confirmsInner := seenInner && p.innerTally + 1 == count && p.innerConfirmed.isNone
  let confirmsOuter := seenOuter && p.outerTally + 1 == count && p.outerConfirmed.isNone
  { p := { p with
      innerTally := if seenInner then satSucc 15 p.innerTally else p.innerTally
      outerTally := if seenOuter then satSucc 15 p.outerTally else p.outerTally
      innerConfirmed := if confirmsInner then some w.innerEnd else p.innerConfirmed
      outerConfirmed := if confirmsOuter then some w.outerEnd else p.outerConfirmed
      missCount := if seenInner || seenOuter then 0 else if w.lossy then p.missCount else satSucc 15 p.missCount }
    newInner := confirmsInner, newOuter := confirmsOuter, fresh := false, leaving := false }

/-- Step 4: a passage at the miss limit leaves the list, or is leaving under the outer-only policy JUDGE (06 R120, R121). -/
def removesByMisses (limit : Nat) (policy : OuterOnlyPolicy) (t : Tracked) : Bool :=
  decide (limit ≤ t.p.missCount) &&
    match t.p.stage, policy with
    | .tracking, _ | .inner, _ | .settled, _ | .entered, _ | .outer, .ignore => true
    | .outer, .judge | .sent, _ => false

/-- Step 4, the outer-only policy JUDGE: an OUTER passage at the miss limit is leaving (06 R121). -/
def judgeOuterOnly (limit : Nat) (policy : OuterOnlyPolicy) (t : Tracked) : Tracked :=
  if decide (limit ≤ t.p.missCount) && t.p.stage == .outer && policy == .judge then { t with leaving := true } else t

/-- The removals to report: those of SETTLED passages, in list order (06 R122). -/
def removalReports (gone : List Tracked) : List TrackerMessage :=
  (gone.filter fun t => t.p.stage == .settled).map fun t => .removed t.p.item

/-- The new items of a report, in the order in which they take their places: those of the inner half, then those of the
outer half alone (06 R113). -/
def newItems (w : Sweep) (passages : List Passage) : List Normal :=
  let absent := fun (n : Normal) => !(passages.any fun p => p.item == n.item)
  w.inner.filter absent ++ w.outer.filter fun n => absent n && !sees w.inner n.item

/-- Step 5: the passage that a new item gets (06 R113). -/
def newPassage (count : Nat) (w : Sweep) (n : Normal) : Tracked :=
  let seenInner := sees w.inner n.item
  let seenOuter := sees w.outer n.item
  { p :=
      { item := n.item, raw := n.raw, window := n.column, cls := n.cls
        firstSeen := if seenInner then w.innerEnd else w.outerEnd
        firstHead := if seenInner && seenOuter then .both else if seenInner then .inner else .outer
        innerTally := if seenInner then 1 else 0
        outerTally := if seenOuter then 1 else 0
        innerConfirmed := if seenInner && count == 1 then some w.innerEnd else none
        outerConfirmed := if seenOuter && count == 1 then some w.outerEnd else none
        missCount := 0, stage := .tracking, verdict := none }
    newInner := seenInner && count == 1, newOuter := seenOuter && count == 1, fresh := true, leaving := false }

/-- The passage that a new item evicts from a full list (06 R114). -/
def victim (ts : List Tracked) : Option Tracked :=
  (ts.find? fun t => !t.fresh && (t.p.stage == .settled || t.p.stage == .entered)).or
    (ts.find? fun t => !t.fresh && t.p.stage == .tracking)

/-- What the steps of a report have come to. -/
structure Working where
  list : List Tracked
  messages : List TrackerMessage
  /-- sightings dropped for want of a place -/
  drops : Nat
  deriving DecidableEq, Repr

/-- Step 5 for one new item: it joins the list, evicting a passage from a full one, or its sighting is dropped (06 R113,
R114). -/
def placeNew (count : Nat) (w : Sweep) (work : Working) (n : Normal) : Working :=
  if work.list.length < Config.passageCapacity then { work with list := work.list ++ [newPassage count w n] }
  else match victim work.list with
    | some v =>
      { work with list := (work.list.filter fun t => t.p.item != v.p.item) ++ [newPassage count w n],
                  messages := work.messages ++ removalReports [v] }
    | none => { work with drops := work.drops + 1 }

/-- Step 6 for one passage: its stage, and whether it is leaving (06 R115 to R117). -/
def decideStage (form : Form) (t : Tracked) : Tracked :=
  match form with
  | .single h =>
    let confirmed := match h with
      | .inner => t.p.innerConfirmed.isSome
      | .outer => t.p.outerConfirmed.isSome
    if (t.p.stage == .tracking || t.p.stage == .inner || t.p.stage == .outer) && confirmed then { t with leaving := true }
    else t
  | .paired | .alternate =>
    match t.p.stage, t.newInner, t.newOuter with
    | .tracking, true, false => { t with p := { t.p with stage := .inner } }
    | .tracking, false, true => { t with p := { t.p with stage := .outer } }
    | .tracking, true, true =>
      if form == .paired && t.p.firstHead == .outer then { t with p := { t.p with stage := .entered } }
      else { t with leaving := true }
    | .inner, _, true => { t with leaving := true }
    | .outer, true, _ => { t with p := { t.p with stage := .entered } }
    | _, _, _ => t

/-- Step 7: a leaving passage becomes SENT (06 R118). -/
def sendLeaving (t : Tracked) : Passage := if t.leaving then { t.p with stage := .sent } else t.p

/-- The leaving passages as they are handed over, in list order (06 R118). -/
def leavingMessages (ts : List Tracked) : List TrackerMessage :=
  (ts.filter fun t => t.leaving).map fun t => .leaving t.p.item t.p.raw t.p.cls

/-- The passages that became ENTERED in step 6 (06 R123). -/
def enteredCount (before after : List Tracked) : Nat :=
  after.countP (fun t => t.p.stage == .entered) - before.countP (fun t => t.p.stage == .entered)

/-- Steps 3 to 5 of a report on a passage list (06 R108). -/
def workReport (x : LaneSettings) (w : Sweep) (passages : List Passage) : Working :=
  let updated := passages.map (updatePassage x.confirmationCount w)
  let gone := updated.filter (removesByMisses x.missLimit x.outerOnly)
  let kept := (updated.filter fun t => !removesByMisses x.missLimit x.outerOnly t).map (judgeOuterOnly x.missLimit x.outerOnly)
  (newItems w passages).foldl (placeNew x.confirmationCount w) { list := kept, messages := removalReports gone, drops := 0 }

namespace State

/-- The tracker of a lane takes a cycle report whole (06 R108). -/
def takeReport (s : State) (l : LaneId) (r : CycleReport) : State :=
  let x := s.lane l
  let w := s.sweep r
  let work := workReport x.settings w x.passages
  let decided := work.list.map (decideStage w.form)
  let foreign := (r.inner.map (foreignCount s.hall.hallMark)).getD 0 + (r.outer.map (foreignCount s.hall.hallMark)).getD 0
  let s := s.modLane l fun y =>
    { y with
        passages := decided.map sendLeaving
        toJudge := y.toJudge ++ work.messages ++ leavingMessages decided
        counts := { y.counts with
          foreignCodes := y.counts.foreignCodes + BitVec.ofNat 32 foreign
          entered := y.counts.entered + BitVec.ofNat 32 (enteredCount work.list decided)
          crowdDrops := y.counts.crowdDrops + BitVec.ofNat 32 work.drops } }
  if work.drops = 0 then s else s.raise .crowd

/-- A verdict settles the SENT passage of its item (06 R119). -/
def settlePassage (v : Verdict) (i : Item) (p : Passage) : Passage :=
  if p.item == i && p.stage == .sent then { p with stage := .settled, verdict := some v } else p

/-- The passage of an item in a lane's list. -/
def findPassage (s : State) (l : LaneId) (i : Item) : Option Passage := (s.lane l).passages.find? fun p => p.item == i

end State

end Sys2Proof.Machine
end

