-- ==== Sys2Proof/Machine/Judgements.lean ====
section
/-! DEFINITION. The trackers and the judgement unit (06, 07): the meanings of CYCLE_REPORT to PASSAGE_REMOVAL_REPORT.

Each takes the message that waits first where its row takes it; where none waits, or the first is of another kind, the step
does not occur and nothing changes (log entries 1 and 5). -/

namespace Sys2Proof.Machine

namespace State

/-! ## Taking a passage (07 section 7.2) -/

/-- A judgement as a passage opens it (07 R127). -/
def newJudgement (l : LaneId) (i : Item) (raw : Option Item) (cls : ItemClass) (stage : JudgementStage) : Judgement :=
  { item := i, owner := l, raw := raw, cls := cls, reason := none, stage := stage, graceEnd := none, verdict := none,
    alarmNumber := none }

/-- The passage of lane `l` has a greater outer tally than the owner lane's passage of the item (07 R129). -/
def seenMoreOutside (s : State) (l : LaneId) (j : Judgement) : Bool :=
  match s.findPassage l j.item, s.findPassage j.owner j.item with
  | some mine, some theirs => decide (theirs.outerTally < mine.outerTally)
  | _, _ => false

/-- The passage takes the judgement over (07 R129). -/
def takesOver (s : State) (l : LaneId) (cls : ItemClass) (j : Judgement) : Bool :=
  j.stage != .done && cls == j.cls && s.seenMoreOutside l j

/-- A handover to lane `l` (07 R129). -/
def handOver (s : State) (l : LaneId) (raw : Option Item) (j : Judgement) : State :=
  let s := (s.modJudgement j.item fun e => { e with owner := l, raw := raw }).giveShadow j.owner j.item
  match j.stage with
  | .asking =>
    { s with port := { s.port with judge := s.port.judge.map fun (c : Item × LaneId) => if c.1 = j.item then (c.1, l) else c } }
  | .verifying => (s.ignoreProbe j.owner j.item).verify j.item
  | .heldAbsent | .heldPending | .done => s

/-- The judgement unit takes a leaving passage of lane `l` (07 R127). -/
def takePassage (s : State) (l : LaneId) (i : Item) (raw : Option Item) (cls : ItemClass) : State :=
  match s.findJudgement i with
  | some j => if s.takesOver l cls j then s.handOver l raw j else s.giveShadow l i
  | none =>
    match cls with
    | .exempt | .staff =>
      ((s.addJudgement { newJudgement l i raw cls .done with verdict := some .exempt }).returnVerdict l i .exempt).modCounts l
        fun c => { c with exemptPasses := c.exemptPasses + 1 }
    | .reference => (s.addJudgement { newJudgement l i raw cls .verifying with reason := some .reference }).verify i
    | .lending | .restricted => (s.addJudgement (newJudgement l i raw cls .asking)).joinAsking i

/-! ## Answers, notices and probe results (07 sections 7.3 to 7.5) -/

/-- A live answer is acted on (07 R134 to R137). -/
def actOnAnswer (s : State) (i : Item) (a : JudgeAnswer) : State :=
  match s.findJudgement i with
  | none => s
  | some j =>
    match a with
    | .pass => s.givePass j
    | .pending => s.modJudgement i fun e => { e with stage := .heldPending, reason := some .pending }
    | .absent =>
      let ends := j.graceEnd.getD (s.hallTime + (s.lane j.owner).settings.grace)
      let s' := s.modJudgement i fun e => { e with stage := .heldAbsent, reason := some .absent, graceEnd := some ends }
      if ends ≤ s.hallTime then s'.verify i else s'
    | .wrongLane => (s.modJudgement i fun e => { e with reason := some .wrongLane }).verify i

/-- The judgement unit takes the answer of its claim, acts on a live one and offers the next claim (07 R133). -/
def takeAnswer (s : State) (i : Item) (a : JudgeAnswer) : State :=
  let live := s.judge.answer == some (i, true)
  let s := { s with judge := { s.judge with answer := none } }
  if live then
    (({ s with judge := { s.judge with asking := s.judge.asking.filter fun k => k != i } }).actOnAnswer i a).offerJudge
  else s.offerJudge

/-- The judgement goes back to ASKING (07 R138). -/
def askAgain (s : State) (i : Item) : State := (s.modJudgement i fun e => { e with stage := .asking }).joinAsking i

/-- The judgement is held on a pending entry (07 R138). -/
def holdPending (s : State) (i : Item) : State :=
  s.modJudgement i fun e => { e with stage := .heldPending, reason := some .pending }

/-- The judgement unit takes a change notice (07 R138). -/
def takeNotice (s : State) (i : Item) (k : ChangeKind) : State :=
  match s.findJudgement i with
  | none => s
  | some j =>
    if j.cls == .reference then s
    else match j.stage, k with
      | .heldAbsent, .cleared | .heldPending, .cleared => s.askAgain i
      | .heldAbsent, .pending => s.holdPending i
      | .heldPending, .pendingGone => s.verify i
      | .verifying, .cleared => (s.ignoreProbe j.owner i).askAgain i
      | .verifying, .pending => (s.ignoreProbe j.owner i).holdPending i
      | .asking, _ | .done, _ | .heldAbsent, .pendingGone | .heldPending, .pending | .verifying, .pendingGone => s

/-- A live probe result ends its judgement (07 R141). -/
def actOnProbe (s : State) (i : Item) (o : ProbeOutcome) : State :=
  match s.findJudgement i with
  | none => s
  | some j =>
    match o with
    | .seen => s.giveAlarm j false
    | .failed => s.giveAlarm j true
    | .notSeen => s.giveStray j

/-- A probe result answers its awaited record, which was at the front of the lane's list as the result was reported: a live
one is acted on, and an ignored one discarded (07 R132, log entry 37). -/
def takeProbeResult (s : State) (l : LaneId) : State :=
  match (s.lane l).results with
  | [] => s
  | r :: results =>
    let s := s.modLane l fun x => { x with results := results }
    if r.live then s.actOnProbe r.item r.outcome else s

end State

/-- CYCLE REPORT: the tracker of the lane takes its first waiting report whole (06 R108). -/
def execCycleReport (l : LaneId) (s : State) : StepOutcome :=
  .next (match (s.lane l).reports with
    | r :: reports => (s.modLane l fun x => { x with reports := reports }).takeReport l r
    | [] => s)

/-- PASSAGE: the judgement unit takes the leaving passage that the lane's tracker handed over first (07 R127). -/
def execPassage (l : LaneId) (s : State) : StepOutcome :=
  .next (match (s.lane l).toJudge with
    | .leaving i raw cls :: rest => ((s.modLane l fun x => { x with toJudge := rest }).takePassage l i raw cls).drive
    | _ => s)

/-- VERDICT: the tracker of the lane takes its first waiting verdict (06 R119). -/
def execVerdict (l : LaneId) (s : State) : StepOutcome :=
  .next (match (s.lane l).verdicts with
    | (i, v) :: rest => s.modLane l fun x => { x with verdicts := rest, passages := x.passages.map (State.settlePassage v i) }
    | [] => s)

/-- JUDGE ANSWER: the judgement unit takes an answer that is first on the way from the table (07 R133). -/
def execJudgeAnswer (s : State) : StepOutcome :=
  .next (match s.judge.inbox with
    | .answer i a :: rest => (({ s with judge := { s.judge with inbox := rest } }).takeAnswer i a).drive
    | _ => s)

/-- CHANGE NOTICE: the judgement unit takes a notice that is first on the way from the table (07 R138). -/
def execChangeNotice (s : State) : StepOutcome :=
  .next (match s.judge.inbox with
    | .notice i k :: rest => (({ s with judge := { s.judge with inbox := rest } }).takeNotice i k).drive
    | _ => s)

/-- GRACE END: a HELD_ABSENT judgement whose grace end is reached goes to verification (07 R139). -/
def execGraceEnd (i : Item) (s : State) : StepOutcome :=
  .next (match s.findJudgement i with
    | some j => if j.stage == .heldAbsent && decide (j.graceEnd.getD (s.hallTime + 1) ≤ s.hallTime) then (s.verify i).drive else s
    | none => s)

/-- PROBE RESULT: the lane's first waiting result answers the awaited record that it came with (07 R141). -/
def execProbeResult (l : LaneId) (s : State) : StepOutcome := .next (s.takeProbeResult l).drive

/-- PASSAGE REMOVAL REPORT: the judgement of the item is removed if the reporting lane owns it (07 R145). -/
def execPassageRemovalReport (l : LaneId) (s : State) : StepOutcome :=
  .next (match (s.lane l).toJudge with
    | .removed i :: rest =>
      ((s.modLane l fun x => { x with toJudge := rest }).removeJudgements fun j => j.item == i && j.owner == l).drive
    | _ => s)

end Sys2Proof.Machine
end

