-- ==== Sys2Proof/Machine/Lines.lean ====
section
/-! DEFINITION. The desk bus and the service link line (09, 10): bus conditions, bytes, and the end of a reply. -/

namespace Sys2Proof.Machine

/-- The state with the desk bus port changed. -/
def State.modDesk (s : State) (f : DeskPort → DeskPort) : State := { s with desk := f s.desk }

/-- The state with the service link port changed. -/
def State.modLink (s : State) (f : LinkPort → LinkPort) : State := { s with link := f s.link }

/-- DESK ADDRESS BYTE: a start or repeated start and its address byte (09 R165, R168). -/
def execDeskAddressByte (address : BitVec 7) (direction : Direction) (s : State) : StepOutcome :=
  .next (s.modDesk fun d => d.addressByte address direction)

/-- DESK WRITE BYTE: a source, kind or body byte (09 R167). -/
def execDeskWriteByte (b : Byte) (s : State) : StepOutcome := .next (s.modDesk fun d => d.writeByte b)

/-- DESK REPEATED START WRITE: a repeated start in RECEIVING that does not take the request (09 R169). -/
def execDeskRepeatedStartWrite (address : BitVec 7) (direction : Direction) (s : State) : StepOutcome :=
  .next (s.modDesk fun d =>
    if d.state == .receiving && !d.takes address direction then d.abandonAddress address direction else d)

/-- DESK STOP CONDITION (09 R170). -/
def execDeskStopCondition (s : State) : StepOutcome := .next (s.modDesk DeskPort.stopCondition)

/-- DESK REPLY BYTE: the desk has read a reply byte and asks for the next (09 R173). -/
def execDeskReplyByte (s : State) : StepOutcome := .next (s.modDesk DeskPort.replyByte)

/-- DESK REPLY DECLINED: the desk declines a reply byte (09 R173). -/
def execDeskReplyDeclined (s : State) : StepOutcome := .next (s.modDesk DeskPort.replyDeclined)

/-- SERVICE BYTE: a byte arrives on RXD (10 R179, R180). -/
def execServiceByte (b : Byte) (s : State) : StepOutcome := .next (s.modLink fun p => p.byteArrives s.hallTime b)

/-- FRAME TIMEOUT: a frame is cut short by 50 ms of silence (10 R180). -/
def execFrameTimeout (s : State) : StepOutcome :=
  .next (s.modLink fun p => if p.silent s.hallTime then p.badFrame else p)

/-- REPLY SENT: the last byte of a reply leaves the line (10 R181). -/
def execReplySent (s : State) : StepOutcome :=
  .next (s.modLink fun p => if p.state == .sending then p.replyLeft s.hallTime else p)

end Sys2Proof.Machine
end

