-- ==== Sys2Proof/Machine/Requests.lean ====
section
/-! DEFINITION. The requests that a port has taken (03, 09 R174, 10 R186): the meanings of HOLD to BAD_REQUEST, each about
the request of its kind that the port has found in a frame. -/

namespace Sys2Proof.Machine

namespace State

/-- STANDING: range check, normalisation, class test (01 R13). -/
def standingRequest (s : State) (d : DeskId) (i : Item) : State × Code :=
  if !validItem i then (s, .badItem)
  else
    let n := s.normalise i
    if n.cls = .staff then
      (s.setStanding d (some { staffItem := n.item, ends := s.hallTime + minutes s.hall.standingTime }), .done)
    else (s, .noStanding)

/-- The taken STANDING request of the desk bus port is carried out (09 R174). -/
def serveStanding (s : State) : State :=
  s.serve .desk fun src kind r => match src, r with
    | .desk d, .standing i =>
      let (s', c) := s.standingRequest d i
      some (s'.replyOn .desk kind (codeReply c))
    | _, _ => none

/-- The taken END STANDING request of the desk bus port is carried out (01 R15). -/
def serveEndStanding (s : State) : State :=
  s.serve .desk fun src kind r => match src, r with
    | .desk d, .endStanding => some ((s.setStanding d none).replyOn .desk kind (codeReply .done))
    | _, _ => none

/-- A lane command of a port: the lane number first, then the standing of the source, then the act (09 R174, 10 R182). -/
def laneRequest (s : State) (p : PortId) (src : Source) (kind : Byte) (lane : Nat) (act : LaneId → State × List Byte) : State :=
  match laneOfNumber lane with
  | none => s.replyOn p kind (codeReply .badValue)
  | some l =>
    if s.inStanding src then
      let (s', bytes) := act l
      (s'.replyOn p kind bytes).drive
    else s.replyOn p kind (codeReply .noStanding)

/-- The taken ACK LANE request of a port is carried out (08 R155). -/
def serveAckLane (s : State) (p : PortId) : State :=
  s.serve p fun src kind r => match r with
    | .ackLane lane =>
      some (s.laneRequest p src kind lane fun l => (s.ackLaneRecords l src, countReply (s.openRecordsOf l)))
    | _ => none

/-- The taken RESTART LANE request of a port is carried out (04 R84). -/
def serveRestartLane (s : State) (p : PortId) : State :=
  s.serve p fun src kind r => match r with
    | .restartLane lane => some (s.laneRequest p src kind lane fun l => (s.restartLane l, codeReply .done))
    | _ => none

end State

/-- HOLD: options tested, items taken through the order of checks, each passing item offering its claim (03 R46). -/
def execHold (p : PortId) (s : State) : StepOutcome := .next (s.serveItems p .hold)

/-- ISSUE (03 R46). -/
def execIssue (p : PortId) (s : State) : StepOutcome := .next (s.serveItems p .issue)

/-- CONFIRM (03 R46). -/
def execConfirm (p : PortId) (s : State) : StepOutcome := .next (s.serveItems p .confirm)

/-- CANCEL (03 R46). -/
def execCancel (p : PortId) (s : State) : StepOutcome := .next (s.serveItems p .cancel)

/-- CONFIRM BATCH: a series of claims begins with the cursor at 0 (03 R59). -/
def execConfirmBatch (p : PortId) (s : State) : StepOutcome := .next (s.serveBatch p .confirm)

/-- CANCEL BATCH (03 R59). -/
def execCancelBatch (p : PortId) (s : State) : StepOutcome := .next (s.serveBatch p .cancel)

/-- DISCHARGE (03 R46). -/
def execDischarge (p : PortId) (s : State) : StepOutcome := .next (s.serveItems p .discharge)

/-- QUERY (03 R46). -/
def execQuery (p : PortId) (s : State) : StepOutcome := .next (s.serveItems p .query)

/-- LOAD, from the service link alone (03 R62). -/
def execLoad (s : State) : StepOutcome := .next (s.serveItems .link .load)

/-- WALK offers one claim (03 R63). -/
def execWalk (s : State) : StepOutcome :=
  .next (s.serve .link fun _ _ r => match r with
    | .walk cursor => some ((s.offerClaim .link (.walk cursor)).setWork .link .walk)
    | _ => none)

/-- CLEAR TABLE offers one claim (02 R41). -/
def execClearTable (s : State) : StepOutcome :=
  .next (s.serve .link fun _ _ r => match r with
    | .clearTable => some ((s.offerClaim .link .clearTable).setWork .link .clearTable)
    | _ => none)

/-- STANDING, from a desk alone (01 R13). -/
def execStanding (s : State) : StepOutcome := .next s.serveStanding

/-- END STANDING, from a desk alone (01 R15). -/
def execEndStanding (s : State) : StepOutcome := .next s.serveEndStanding

/-- ACK LANE, from the host or a desk in standing (08 R155). -/
def execAckLane (p : PortId) (s : State) : StepOutcome := .next (s.serveAckLane p)

/-- RESTART LANE, from the host or a desk in standing (04 R84). -/
def execRestartLane (p : PortId) (s : State) : StepOutcome := .next (s.serveRestartLane p)

/-- The taken request of a port that is refused whole is answered (09 R168, 10 R181). -/
def State.serveBad (s : State) (p : PortId) : State :=
  s.serve p fun _ kind r => match r with
    | .bad => some (s.replyOn p kind (codeReply .badRequest))
    | _ => none

/-- BAD REQUEST: a taken request that is refused whole, or a read that came with no request, changes nothing but its port
(09 R168, 10 R181). -/
def execBadRequest (p : PortId) (s : State) : StepOutcome :=
  .next (if s.replyFormed p then s.replyOn p 0 s.desk.reply else s.serveBad p)

end Sys2Proof.Machine
end

