-- ==== Sys2Proof/Machine/Resets.lean ====
section
/-! DEFINITION. Power-on reset and soft restart (00 Resets, 10 R191). -/

namespace Sys2Proof.Machine

namespace State

/-- A desk-only request is carried out at the moment of taking, so a soft restart finds it carried out (09 R176,
log entry 4). -/
def carryOutDesk (s : State) : State := (s.serveStanding.serveEndStanding.serveAckLane .desk).serveRestartLane .desk

/-- Every ask is withdrawn, and every lane that is not DISABLED goes through RESTART LANE (04 R85, 05 R93,
log entry 18). -/
def restartLanes (s : State) : State :=
  let s := allLanes.foldl (fun s l => s.modLane l fun x => { x with ask := false }) s
  allLanes.foldl (fun s l => if (s.lane l).state == .disabled then s else s.restartLane l) s

/-- The judgement unit's soft restart: list, asking queue and awaited probe lists are empty, its waiting claim is withdrawn
and the answer of a taken one will be discarded (02 R43, 07 R147). -/
def restartJudgement (s : State) : State :=
  let s := allLanes.foldl (fun s l => s.modLane l fun x => { x with awaited := [] }) s
  { s with
      judge := { s.judge with entries := [], asking := [], answer := s.judge.answer.map fun (a : Item × Bool) => (a.1, false) }
      port := { s.port with judge := none } }

/-- The desk bus port's soft restart: a waiting claim completes at the table port and answers no request (02 R43, 09 R176). -/
def restartDesk (s : State) : State :=
  { s with
      desk := s.desk.softRestart
      port := { s.port with deskOrphan := s.port.desk.isSome, deskDeferred := none } }

/-- The soft restart of every block (10 R191). -/
def softRestart (s : State) : State :=
  let s := s.carryOutDesk
  let s := { s with standing := Vector.replicate 15 none }
  let s := s.restartLanes.restartJudgement
  s.silenceRecords.restartDesk

end State

/-- POWER-ON RESET: every block in its power-on state, with the straps read afresh (00 Resets).
The model's own queue and counter are no part of the part. -/
def execPowerOnReset (address rate : BitVec 2) (s : State) : StepOutcome :=
  .next { State.afterPowerOn address rate with freeReads := s.freeReads, pending := s.pending }

/-- RESTART: the soft restart of every block, then DONE (10 R191). -/
def execRestart (s : State) : StepOutcome :=
  .next (s.serve .link fun _ kind r => match r with
    | .restart => some ((s.softRestart.replyOn .link kind (codeReply .done)).drive)
    | _ => none)

end Sys2Proof.Machine
end

