-- ==== Sys2Proof/Machine/Service.lean ====
section
/-! DEFINITION. The commands of the host alone (10): configuration, lanes, status, alarms and notices. -/

namespace Sys2Proof.Machine

namespace State

/-- A service link command is answered with reply bytes. -/
def linkReply (s : State) (kind : Byte) (bytes : List Byte) : State := s.replyOn .link kind bytes

/-- A lane named by its number, or BAD_VALUE (04 R82, R83). -/
def withLane (s : State) (kind : Byte) (lane : Nat) (act : LaneId → State) : State :=
  match laneOfNumber lane with
  | some l => act l
  | none => s.linkReply kind (codeReply .badValue)

/-- The host's taken command, where it is the one the row is about. -/
def serveLink (s : State) (f : Byte → Request → Option State) : State := s.serve .link fun _ kind r => f kind r

/-- Every counter of a head at 0 and its rollover flag clear (10 R189). -/
def clearHead (u : HeadUnit) : HeadUnit := { u with retries := 0, rollover := false, stale := 0, badChecks := 0 }

/-- Every counter of a lane and its heads at 0 (10 R189). -/
def clearLane (x : Lane) : Lane :=
  { x with inner := clearHead x.inner, outer := clearHead x.outer, counts := LaneCounts.reset }

/-- CLEAR COUNTS: every counter of the part at 0 and every rollover flag clear, but for the service link port's own two, which
were zeroed as the command was taken (10 R189). -/
def clearCounters (s : State) : State :=
  let s := allLanes.foldl (fun s l => s.modLane l clearLane) s
  { s with
      table := { s.table with lapsed := 0, expired := 0, evicted := 0 }
      log := { s.log with overwrites := 0 }
      desk := { s.desk with abandoned := 0 } }

end State

/-- SET HALL: all eight settings at once, or BAD_VALUE (10 R183). -/
def execSetHall (s : State) : StepOutcome :=
  .next (s.serveLink fun kind r => match r with
    | .setHall v =>
      match v.settings with
      | some h => some (({ s with hall := h }).linkReply kind (codeReply .done))
      | none => some (s.linkReply kind (codeReply .badValue))
    | _ => none)

/-- SET WINDOW: the record is replaced whole, or BAD_VALUE (01 R8). -/
def execSetWindow (s : State) : StepOutcome :=
  .next (s.serveLink fun kind r => match r with
    | .setWindow v =>
      match v.record with
      | some (w, x) => some (({ s with windows := s.windows.set w x }).linkReply kind (codeReply .done))
      | none => some (s.linkReply kind (codeReply .badValue))
    | _ => none)

/-- SET RIGHTS: one cell or a desk's whole row, or BAD_VALUE (01 R10). -/
def execSetRights (s : State) : StepOutcome :=
  .next (s.serveLink fun kind r => match r with
    | .setRights desk column right =>
      match rightsWrite desk column right with
      | some (d, cs, x) => some ((s.writeRights d cs x).linkReply kind (codeReply .done))
      | none => some (s.linkReply kind (codeReply .badValue))
    | _ => none)

/-- SET LANE: lane number, then DISABLED, then the values; all fourteen settings at once (10 R185). -/
def execSetLane (s : State) : StepOutcome :=
  .next (s.serveLink fun kind r => match r with
    | .setLane v =>
      some (s.withLane kind v.lane fun l =>
        if (s.lane l).state != .disabled then s.linkReply kind (codeReply .busy)
        else match v.settings with
          | some x => (s.modLane l fun y => { y with settings := x }).linkReply kind (codeReply .done)
          | none => s.linkReply kind (codeReply .badValue))
    | _ => none)

/-- ENABLE LANE: a DISABLED lane enters STARTING; BUSY in any other state (04 R82). -/
def execEnableLane (s : State) : StepOutcome :=
  .next (s.serveLink fun kind r => match r with
    | .enableLane lane =>
      some (s.withLane kind lane fun l =>
        if (s.lane l).state == .disabled then ((s.startLane l).linkReply kind (codeReply .done)).drive
        else s.linkReply kind (codeReply .busy))
    | _ => none)

/-- DISABLE LANE: the lane leaves service and is DISABLED (04 R83). -/
def execDisableLane (s : State) : StepOutcome :=
  .next (s.serveLink fun kind r => match r with
    | .disableLane lane =>
      some (s.withLane kind lane fun l => ((s.disableLane l).linkReply kind (codeReply .done)).drive)
    | _ => none)

/-- READ LANE: the lane state, its passages and the judgements it owns, read in one step (10 R187).
The free values it may show are fresh ones (log entry 10). -/
def execReadLane (s : State) : StepOutcome :=
  .next (s.serveLink fun kind r => match r with
    | .readLane lane =>
      some (s.withLane kind lane fun l =>
        ({ s with freeReads := s.freeReads + (s.lane l).passages.length }).linkReply kind (laneReply s l))
    | _ => none)

/-- READ STATUS (10 R188). -/
def execReadStatus (s : State) : StepOutcome :=
  .next (s.serveLink fun kind r => match r with
    | .readStatus => some (s.linkReply kind (statusReply s))
    | _ => none)

/-- CLEAR COUNTS (10 R189). -/
def execClearCounts (s : State) : StepOutcome :=
  .next (s.serveLink fun kind r => match r with
    | .clearCounts => some (s.clearCounters.linkReply kind (codeReply .done))
    | _ => none)

/-- READ ALARMS: up to 8 records, or NO_ENTRY for a number that no record holds (08 R157). -/
def execReadAlarms (s : State) : StepOutcome :=
  .next (s.serveLink fun kind r => match r with
    | .readAlarms after =>
      match s.readAlarms after with
      | some rs => some (s.linkReply kind (alarmsReply rs))
      | none => some (s.linkReply kind (codeReply .noEntry))
    | _ => none)

/-- ACK ALARM: an OPEN record becomes ACKNOWLEDGED with closed by 0, or NO_ENTRY (08 R154). -/
def execAckAlarm (s : State) : StepOutcome :=
  .next (s.serveLink fun kind r => match r with
    | .ackAlarm number =>
      if s.log.records.any fun r => r.number.toNat == number && r.state == .opened then
        some (((s.setRecords (s.log.records.map fun r =>
          if r.number.toNat == number then State.acknowledged s.hallTime .link r else r)).linkReply kind (codeReply .done)).drive)
      else some (s.linkReply kind (codeReply .noEntry))
    | _ => none)

/-- CLEAR LOG: ACKNOWLEDGED and SETTLED records leave; the reply counts them (08 R158). -/
def execClearLog (s : State) : StepOutcome :=
  .next (s.serveLink fun kind r => match r with
    | .clearLog =>
      let gone := s.log.records.countP fun r => r.state != .opened
      some (s.clearClosed.linkReply kind (countReply gone))
    | _ => none)

/-- READ NOTICES: the set is read and emptied in one step, and the NOTICE line is released (10 R190). -/
def execReadNotices (s : State) : StepOutcome :=
  .next (s.serveLink fun kind r => match r with
    | .readNotices =>
      some (({ s with link := { s.link with notices := NoticeSet.empty, noticeLine := false } }).linkReply kind
        (noticesReply s.link.notices))
    | _ => none)

end Sys2Proof.Machine
end

