-- ==== Sys2Proof/Machine/Dispatch.lean ====
section
/-! DEFINITION. What each command does: one arm for each row of spec/opcode_table.json. -/

namespace Sys2Proof.Machine

def exec (i : Instr) (s : State) : Host.Outcome State Fault Refusal :=
  match i with
  | .powerOnReset address rate => Sys2Proof.Machine.execPowerOnReset address rate s
  | .restart => Sys2Proof.Machine.execRestart s
  | .hold port => Sys2Proof.Machine.execHold port s
  | .issue port => Sys2Proof.Machine.execIssue port s
  | .confirm port => Sys2Proof.Machine.execConfirm port s
  | .cancel port => Sys2Proof.Machine.execCancel port s
  | .confirmBatch port => Sys2Proof.Machine.execConfirmBatch port s
  | .cancelBatch port => Sys2Proof.Machine.execCancelBatch port s
  | .discharge port => Sys2Proof.Machine.execDischarge port s
  | .query port => Sys2Proof.Machine.execQuery port s
  | .load => Sys2Proof.Machine.execLoad s
  | .walk => Sys2Proof.Machine.execWalk s
  | .clearTable => Sys2Proof.Machine.execClearTable s
  | .standing => Sys2Proof.Machine.execStanding s
  | .endStanding => Sys2Proof.Machine.execEndStanding s
  | .ackLane port => Sys2Proof.Machine.execAckLane port s
  | .restartLane port => Sys2Proof.Machine.execRestartLane port s
  | .setHall => Sys2Proof.Machine.execSetHall s
  | .setWindow => Sys2Proof.Machine.execSetWindow s
  | .setRights => Sys2Proof.Machine.execSetRights s
  | .setLane => Sys2Proof.Machine.execSetLane s
  | .enableLane => Sys2Proof.Machine.execEnableLane s
  | .disableLane => Sys2Proof.Machine.execDisableLane s
  | .readLane => Sys2Proof.Machine.execReadLane s
  | .readStatus => Sys2Proof.Machine.execReadStatus s
  | .clearCounts => Sys2Proof.Machine.execClearCounts s
  | .readAlarms => Sys2Proof.Machine.execReadAlarms s
  | .ackAlarm => Sys2Proof.Machine.execAckAlarm s
  | .clearLog => Sys2Proof.Machine.execClearLog s
  | .readNotices => Sys2Proof.Machine.execReadNotices s
  | .badRequest port => Sys2Proof.Machine.execBadRequest port s
  | .holdClaim => Sys2Proof.Machine.execHoldClaim s
  | .issueClaim => Sys2Proof.Machine.execIssueClaim s
  | .confirmClaim => Sys2Proof.Machine.execConfirmClaim s
  | .cancelClaim => Sys2Proof.Machine.execCancelClaim s
  | .confirmBatchClaim => Sys2Proof.Machine.execConfirmBatchClaim s
  | .cancelBatchClaim => Sys2Proof.Machine.execCancelBatchClaim s
  | .dischargeClaim => Sys2Proof.Machine.execDischargeClaim s
  | .queryClaim => Sys2Proof.Machine.execQueryClaim s
  | .loadClaim => Sys2Proof.Machine.execLoadClaim s
  | .walkClaim => Sys2Proof.Machine.execWalkClaim s
  | .clearTableClaim => Sys2Proof.Machine.execClearTableClaim s
  | .judge => Sys2Proof.Machine.execJudge s
  | .dueTimeReached => Sys2Proof.Machine.execDueTimeReached s
  | .expiryClaim => Sys2Proof.Machine.execExpiryClaim s
  | .standingEnd desk => Sys2Proof.Machine.execStandingEnd desk s
  | .soundingEnd number => Sys2Proof.Machine.execSoundingEnd number s
  | .identReply lane head message => Sys2Proof.Machine.execIdentReply lane head message s
  | .roundReport lane head message => Sys2Proof.Machine.execRoundReport lane head message s
  | .probeReport lane head message => Sys2Proof.Machine.execProbeReport lane head message s
  | .headMessageDiscarded lane head message => Sys2Proof.Machine.execHeadMessageDiscarded lane head message s
  | .roundTimeout lane head => Sys2Proof.Machine.execRoundTimeout lane head s
  | .abort lane head => Sys2Proof.Machine.execAbort lane head s
  | .guardEnd group => Sys2Proof.Machine.execGuardEnd group s
  | .cycleReport lane => Sys2Proof.Machine.execCycleReport lane s
  | .passage lane => Sys2Proof.Machine.execPassage lane s
  | .verdict lane => Sys2Proof.Machine.execVerdict lane s
  | .judgeAnswer => Sys2Proof.Machine.execJudgeAnswer s
  | .changeNotice => Sys2Proof.Machine.execChangeNotice s
  | .graceEnd item => Sys2Proof.Machine.execGraceEnd item s
  | .probeResult lane => Sys2Proof.Machine.execProbeResult lane s
  | .passageRemovalReport lane => Sys2Proof.Machine.execPassageRemovalReport lane s
  | .deskAddressByte address direction => Sys2Proof.Machine.execDeskAddressByte address direction s
  | .deskWriteByte byte => Sys2Proof.Machine.execDeskWriteByte byte s
  | .deskRepeatedStartWrite address direction => Sys2Proof.Machine.execDeskRepeatedStartWrite address direction s
  | .deskStopCondition => Sys2Proof.Machine.execDeskStopCondition s
  | .deskReplyByte => Sys2Proof.Machine.execDeskReplyByte s
  | .deskReplyDeclined => Sys2Proof.Machine.execDeskReplyDeclined s
  | .serviceByte byte => Sys2Proof.Machine.execServiceByte byte s
  | .frameTimeout => Sys2Proof.Machine.execFrameTimeout s
  | .replySent => Sys2Proof.Machine.execReplySent s

end Sys2Proof.Machine
end

