-- ==== Sys2Proof/Safety.lean ====
section
/-! DEFINITION. What must hold of the EG12 in every state, as predicates on one state, the frames within which an
operation works, as relations of a state before and after it, and what a lane's work and an alarm's raising come to, spelled out
from the rules for the statements. -/

namespace Sys2Proof.Machine

/-! ## Invariants -/

namespace State

/-- The entries of the clearance table rise strictly by item, so no two share an item (02 R18). -/
def tableOrdered (s : State) : Prop := s.table.entries.Pairwise fun a b => a.item < b.item

/-- The number of PENDING entries of a source. -/
def pendingOf (s : State) (src : Source) : Nat := s.table.entries.countP fun e => e.stage == .pending && e.source == src

/-- Each pending count is the number of PENDING entries of its source (02 R28). -/
def pendingCountsExact (s : State) : Prop := ∀ src, s.pendingCount src = s.pendingOf src

/-- The limits of the clearance table: 4096 entries, 256 of them PENDING, 32 PENDING entries of one source (02 R28). -/
def tableWithinLimits (s : State) : Prop :=
  s.table.entries.length ≤ Config.tableCapacity ∧ s.stageCount .pending ≤ Config.pendingCapacity
    ∧ ∀ src, s.pendingOf src ≤ Config.pendingPerSource

/-- No passage list holds more than 24 passages or two of one item (06 R107). -/
def passageListsSound (s : State) : Prop :=
  ∀ l, (s.lane l).passages.length ≤ Config.passageCapacity ∧ ((s.lane l).passages.map Passage.item).Nodup

/-- The alarm log holds at most 64 records, no two of one number (08 R151). -/
def alarmLogSound (s : State) : Prop :=
  s.log.records.length ≤ Config.logCapacity ∧ (s.log.records.map AlarmRecord.number).Nodup

/-- The judgement list holds at most one entry of an item (07 R125). -/
def judgementsDistinct (s : State) : Prop := (s.judge.entries.map Judgement.item).Nodup

/-- No probe queue holds more than 4 entries (05 R98). -/
def probeQueuesBounded (s : State) : Prop := ∀ l, (s.lane l).probes.length ≤ Config.probeCapacity

/-- The awaited probe list of every lane holds the items of its probe queue, in the same order, and never more than 4 records;
a DISABLED lane has no probe queued and no result on its way (07 R132, 04 R83, log entry 37). -/
def awaitedProbesMatched (s : State) : Prop :=
  ∀ l, (s.lane l).awaited.map AwaitedProbe.item = (s.lane l).probes.map ProbeEntry.item
    ∧ (s.lane l).awaited.length ≤ Config.probeCapacity
    ∧ ((s.lane l).state = .disabled → (s.lane l).results = [] ∧ (s.lane l).probes = [])

/-- The arbiter of every group, its holder and the asks agree with the lanes: a lane with something in flight holds the band
of its group, a holder is a member of the group and in service, and a lane that asks is in service (05 R93, R94). -/
def bandsSound (s : State) : Prop :=
  (∀ l, (s.lane l).flight ≠ .nothing → s.holds l = true)
    ∧ (∀ g l, (s.arbiter g).band = .held l → s.groupOf l = g ∧ (s.lane l).state.hasWork = true)
    ∧ (∀ l, (s.lane l).ask = true → (s.lane l).state.hasWork = true)

/-- Two lanes of one group never have a round or a probe in flight together (05 R93). -/
def bandExclusive (s : State) : Prop :=
  ∀ l m, s.groupOf l = s.groupOf m → (s.lane l).flight ≠ .nothing → (s.lane m).flight ≠ .nothing → l = m

/-- The set of notices holds some kind. -/
def someNotice (s : State) : Bool :=
  s.link.notices.alarm || s.link.notices.fault || s.link.notices.logOverwrite || s.link.notices.crowd
    || s.link.notices.tableFull

/-- The NOTICE line is asserted exactly while the notice set holds a kind (10 R190). -/
def noticeLineFollowsSet (s : State) : Prop := s.link.noticeLine = s.someNotice

/-- The receive buffer holds at most 1024 bytes (10 R179), the request buffer at most source, kind and 45 body bytes
(09 R167), and no more reply bytes count as supplied than the reply has (09 R166). -/
def buffersBounded (s : State) : Prop :=
  s.link.buffer.length ≤ Config.receiveBufferBytes ∧ s.desk.buffer.length ≤ Config.deskBufferBytes
    ∧ s.desk.supplied ≤ s.desk.reply.length

/-- Hall time fits its 48 bits (00 Hall time). -/
def hallTimeFits (s : State) : Prop := s.hallTime < hallModulus

end State

/-! ## Frames -/

/-- Nothing changes but the lanes, the band arbiters, and the notice set and line of the service link port. -/
def LanesOnly (s t : State) : Prop :=
  t = { s with lanes := t.lanes, bands := t.bands,
               link := { s.link with notices := t.link.notices, noticeLine := t.link.noticeLine } }

/-- Nothing changes but what judging changes: the lanes, the arbiters, the judgement unit with its claim at the table port,
the alarm log, and the notice set and line. -/
def JudgingOnly (s t : State) : Prop :=
  t = { s with lanes := t.lanes, bands := t.bands, judge := t.judge, log := t.log,
               port := { s.port with judge := t.port.judge },
               link := { s.link with notices := t.link.notices, noticeLine := t.link.noticeLine } }

/-- Nothing changes but what a claim changes: the table and its port, the notices on their way to the judgement unit, the
alarm log, and the two request ports. -/
def ClaimOnly (s t : State) : Prop :=
  t = { s with table := t.table, port := t.port, judge := { s.judge with inbox := t.judge.inbox }, log := t.log,
               desk := t.desk, link := t.link }

/-- Nothing changes but the two request ports and the table port, where a request waits for its claims. -/
def PortsOnly (s t : State) : Prop := t = { s with port := t.port, desk := t.desk, link := t.link }

/-- Of a lane nothing changes but its sounder line and its lamp. -/
def OutputsOnly (x y : Lane) : Prop := y = { x with sounder := y.sounder, lamp := y.lamp }

/-! ## What a lane begins -/

namespace Lane

/-- The form of the next cycle or probe of a lane (05 R89, R100). -/
def nextForm (x : Lane) : Form :=
  if x.state = .inService then (if x.settings.sweepMode = .paired then .paired else .alternate)
  else .single (if x.inner.working then .inner else .outer)

/-- A lane that has sent a numbered command to the heads of a form: each has it outstanding under its next sequence number, and an
ABORT that it was owed has gone out first (04 R69, R71, R75, R77, log entries 7 and 8). -/
def commanded (now : Time) (form : Form) (command : BitVec 8 → HeadCommand) (x : Lane) : Lane :=
  let told := fun (u : HeadUnit) =>
    { u with state := .busy, seq := u.seq + 1, abortOwed := false
             outstanding := some { command := command (u.seq + 1), sentAt := now }
             sent := u.sent ++ (if u.abortOwed then [.abort u.seq] else []) ++ [command (u.seq + 1)] }
  { x with inner := if form = .single .outer then x.inner else told x.inner
           outer := if form = .paired ∨ form = .single .outer then told x.outer else x.outer }

/-- A lane that has begun a new cycle with its first round start (05 R87, R89). -/
def newCycle (now : Time) (x : Lane) : Lane :=
  { x.commanded now x.nextForm fun q => .round q x.settings.roundTime with flight := .rounds x.nextForm none none }

/-- A lane that has made its round start: the ROUND of a new cycle, or the outer ROUND of a cycle whose inner half is buffered; a
buffered half whose outer head does not work is delivered first, with a lossy outer half (05 R90, R102). -/
def roundStarted (now : Time) (x : Lane) : Lane :=
  match x.buffer with
  | none => x.newCycle now
  | some half =>
    if x.outer.working then
      { x.commanded now (.single .outer) fun q => .round q x.settings.roundTime with flight := .rounds .alternate none none }
    else newCycle now { x with
      buffer := none
      counts := { x.counts with cycles := x.counts.cycles + 1, lossyRounds := x.counts.lossyRounds + 1 }
      reports := x.reports ++ [{ form := .alternate, inner := some half, outer :=
        (some { head := .outer, codes := [], lossy := true, endTime := now }) }] }

/-- A lane that has begun the work a holder has: a queued probe, which waits while something is in flight or a working head owes
an ABORT, or with none queued its round start (05 R95, R99, R100, log entry 7). -/
def begun (now : Time) (x : Lane) : Lane :=
  match x.probes with
  | [] => x.roundStarted now
  | e :: _ =>
    if x.flight = .nothing ∧ ¬ (x.inner.working ∧ x.inner.abortOwed ∨ x.outer.working ∧ x.outer.abortOwed) then
      { x.commanded now x.nextForm fun q => .probe q e.code with flight := .probe x.nextForm false }
    else x

end Lane

/-! ## What a raising does -/

/-- From `s` to `t` the alarm log has taken the raising of the record `a`: room is made in a full log, by the oldest record that is
not OPEN or else by the oldest, which raises LOG_OVERWRITE and is counted; the record has the first number from the counter upward
that no record still in the log holds, it joins the back, OPEN, with its sounding end, and ALARM is raised (08 R152, R153, R159). -/
def Raised (s t : State) (a : AlarmRecord) : Prop :=
  let before := s.log.records
  let full := 64 ≤ before.length
  let allOpen := ∀ r ∈ before, r.state = .opened
  ∃ kept, t.log = { records := kept ++ [a], counter := a.number + 1
                    overwrites := if full ∧ allOpen then s.log.overwrites + 1 else s.log.overwrites }
    ∧ (¬ full → kept = before)
    ∧ (full → allOpen → kept = before.drop 1)
    ∧ (full → ∀ older v newer, before = older ++ v :: newer → v.state ≠ .opened → (∀ r ∈ older, r.state = .opened) →
        kept = older ++ newer)
    ∧ (before.length ≤ 64 → (∀ r ∈ kept, r.number ≠ a.number)
        ∧ ∃ k : Nat, k < 64 ∧ a.number = s.log.counter + BitVec.ofNat 16 k
            ∧ ∀ i < k, ∃ r ∈ kept, r.number = s.log.counter + BitVec.ofNat 16 i)
    ∧ a.raised = s.hallTime ∧ a.soundingEnd = s.hallTime + 1000 * (s.lane a.lane).settings.soundingTime
    ∧ a.state = .opened ∧ a.closedAt = none ∧ a.closedBy = none
    ∧ t.link.notices = { s.link.notices with
        alarm := true, logOverwrite := decide (full ∧ allOpen) || s.link.notices.logOverwrite }
    ∧ t.link.noticeLine = true

end Sys2Proof.Machine
end

