-- ==== Sys2Proof/Certificates/Slice0/Obligations.lean ====
section
/-! DEFINITION. Statements about the EG12, for the provers.

In a statement about a request or a claim, `s.workOf p = .taken src kind r` says that port `p` has taken the request `r`, and
`s.port.nextRequest = some (p, c)` that the ring of the table port makes the claim `c` of port `p` next. -/

open Sys2Proof Sys2Proof.Machine

/-! ## Steps and resets -/

/-- A step takes the command at the front of the queue and runs it on the state with the queue's rest. -/
def Obligations.StepRunsTheFrontCommand : Prop :=
  ∀ (s : State) (c : Instr),
    step (s.withCommand c) = exec c s ∧ ∀ rest, s.pending = c :: rest → step s = exec c { s with pending := rest }

/-- On an empty queue a step runs what is due, and with nothing due one millisecond of hall time passes and nothing else changes.
Something is due while a port has a taken request or a reply BAD_REQUEST already formed, and where a guard end, a round timeout, a
standing end, a grace end, a sounding end whose lane's sounder still sounds, a due time while the expiry process has no claim
waiting, or the silence that cuts a frame short has been reached: hall time does not pass it, and what is run is the command of one
of these. All of it is the model's choice (log entries 2 and 3), and that the BAD_REQUEST reply waits so is its reading (log entry 4,
DEDUCED). A claim that waits at the table port and a message between two blocks are not among them: their own commands take them, and
the spec lets them be on their way for some milliseconds (log entry 3). -/
def Obligations.IdleStepTakesWhatIsDueElseAMillisecond : Prop :=
  ∀ s : State, s.pending = [] →
    let now := s.hallTime
    let due := fun (c : Instr) =>
      (∃ p src kind r, s.workOf p = .taken src kind r ∧ c = r.command p)
        ∨ (c = .badRequest .desk ∧ s.desk.state = .working ∧ s.desk.work = .idle ∧ s.desk.reply ≠ [])
        ∨ (∃ g, c = .guardEnd g ∧ (s.arbiter g).band = .guarding ∧ (s.arbiter g).guardEnd ≤ now)
        ∨ (∃ l h a, c = .roundTimeout l h ∧ ((s.lane l).head h).outstanding = some a
            ∧ a.sentAt + (s.lane l).settings.roundTimeout ≤ now)
        ∨ (∃ (d : DeskId) (r : Standing), c = .standingEnd d ∧ s.standing[d] = some r ∧ r.ends ≤ now)
        ∨ (∃ j ∈ s.judge.entries, c = .graceEnd j.item ∧ j.stage = .heldAbsent ∧ ∃ e, j.graceEnd = some e ∧ e ≤ now)
        ∨ (∃ r ∈ s.log.records, c = .soundingEnd r.number ∧ r.state = .opened ∧ r.soundingEnd ≤ now
            ∧ (s.lane r.lane).sounder = true
            ∧ ((s.lane r.lane).state = .disabled
              ∨ ∀ other ∈ s.log.records, other.lane = r.lane → other.state = .opened → other.soundingEnd ≤ now))
        ∨ (c = .dueTimeReached ∧ s.port.expiry = none ∧ ∃ e ∈ s.table.entries, e.due ≤ now)
        ∨ (c = .frameTimeout ∧ s.link.state = .receiving ∧ s.link.buffer = [] ∧ s.link.quietSince + 50 ≤ now)
    (∀ c, s.dueEvent = some c → step s = exec c s ∧ due c)
      ∧ ((∃ c, due c) → s.dueEvent ≠ none)
      ∧ (s.dueEvent = none → step s = .next { s with hallTime := (s.hallTime + 1) % 281474976710656 })

/-- Every command answers a next state, and leaves the queue of waiting commands as it was. That a command about something that
does not stand in the state changes nothing, rather than stopping, is the model's choice (log entry 1), and so is that
POWER_ON_RESET keeps the queue (log entry 31). -/
def Obligations.EveryCommandAnswersANextState : Prop :=
  ∀ (c : Instr) (s : State), ∃ t, exec c s = .next t ∧ t.pending = s.pending

/-- The power-on values of every block: the hall, the source unit, the window unit, the table and its port, the judgement
unit, the alarm log, the two ports, and every lane, head and band arbiter. -/
def Obligations.ResetStateOfEveryBlock : Prop :=
  (State.reset.hallTime = 0
     ∧ State.reset.hall = { hallMark := 1, defaultClass := .lending, allowance := 30, leeway := 5, pendingLimit := 20,
                            standingTime := 10, lateWindow := 60, guardGap := 5 }
     ∧ (∀ w : Fin 16, State.reset.windows[w] = { enabled := false, base := 0, k := 0, cls := .lending, target := none })
     ∧ (∀ (d : DeskId) (c : Column), State.reset.rights[d][c] = Right.none)
     ∧ (∀ d : DeskId, State.reset.standing[d] = none)
     ∧ State.reset.table.entries = [] ∧ (∀ src, State.reset.pendingCount src = 0)
     ∧ State.reset.table.lapsed = 0 ∧ State.reset.table.expired = 0 ∧ State.reset.table.evicted = 0
     ∧ State.reset.port.lastServed = .expiry ∧ State.reset.port.turn = none
     ∧ State.reset.judge = { entries := [], asking := [], answer := none, inbox := [] }
     ∧ State.reset.log = { records := [], counter := 0, overwrites := 0 }
     ∧ State.reset.desk.state = .idle ∧ State.reset.desk.buffer = [] ∧ State.reset.desk.overlong = false
     ∧ State.reset.desk.reply = [] ∧ State.reset.desk.abandoned = 0 ∧ State.reset.desk.clockHeld = false
     ∧ State.reset.link.state = .hunting ∧ State.reset.link.buffer = [] ∧ State.reset.link.frame = []
     ∧ State.reset.link.reply = [] ∧ State.reset.someNotice = false ∧ State.reset.link.noticeLine = false
     ∧ State.reset.link.badFrames = 0 ∧ State.reset.link.lostBytes = 0)
    ∧ ((∀ l : LaneId,
           (State.reset.lane l).state = .disabled
             ∧ (State.reset.lane l).settings =
                 { bandGroup := ⟨l.val / 2, by omega⟩, sweepMode := .alternate, halfCycle := .continue, roundTime := 40,
                   roundTimeout := 100, retryLimit := 2, tenure := 4, confirmationCount := 2, missLimit := 4, grace := 1500,
                   verify := true, outerOnly := .ignore, faultPolicy := .single, soundingTime := 10 }
             ∧ (State.reset.lane l).flight = .nothing ∧ (State.reset.lane l).buffer = none ∧ (State.reset.lane l).ask = false
             ∧ (State.reset.lane l).probes = [] ∧ (State.reset.lane l).passages = [] ∧ (State.reset.lane l).awaited = []
             ∧ (State.reset.lane l).counts = LaneCounts.reset
             ∧ (State.reset.lane l).sounder = false ∧ (State.reset.lane l).lamp = .off
             ∧ ∀ h, ((State.reset.lane l).head h).state = .unknown ∧ ((State.reset.lane l).head h).seq = 0
                 ∧ ((State.reset.lane l).head h).outstanding = none ∧ ((State.reset.lane l).head h).failures = 0
                 ∧ ((State.reset.lane l).head h).retries = 0 ∧ ((State.reset.lane l).head h).rollover = false
                 ∧ ((State.reset.lane l).head h).stale = 0 ∧ ((State.reset.lane l).head h).badChecks = 0)
         ∧ ∀ g : GroupId, State.reset.arbiter g = { band := .free, tenureCount := 0, guardEnd := 0, lastHolder := none })

/-- POWER-ON RESET leaves the reset state with the straps as they are read: the desk bus address is 0x2C plus the address
straps, and the rate of the service link is that of the rate straps. That State.reset has every strap at 0 is the model's choice
(log entry 9), and so is that the model's own queue and counter of free values stay as they are (log entry 31). -/
def Obligations.PowerOnResetReadsTheStraps : Prop :=
  ∀ (address rate : BitVec 2) (s : State),
    exec (.powerOnReset address rate) s = .next
      { State.reset with
          desk := { State.reset.desk with address := 0x2C + address.setWidth 7 }
          link := { State.reset.link with rate := rate }
          freeReads := s.freeReads
          pending := s.pending }

/-! ## The window unit and the source unit -/

/-- Matching and normalisation: the first enabled window, in ascending number, that covers the raw number gives class,
column and renumbering; with none, the default class and column 16; the raw item is present only when it differs; and with
windows that SET WINDOW lets in, a valid number normalises to a valid one. -/
def Obligations.RawNumbersAreMatchedAndNormalised : Prop :=
  ∀ (s : State) (raw : Item),
    (∀ w : Fin 16,
        (s.windows[w].enabled = true ∧ s.windows[w].base ≤ raw ∧ raw < s.windows[w].base + 2 ^ s.windows[w].k) →
        (∀ v : Fin 16, v < w →
          ¬ (s.windows[v].enabled = true ∧ s.windows[v].base ≤ raw ∧ raw < s.windows[v].base + 2 ^ s.windows[v].k)) →
        (s.normalise raw).cls = s.windows[w].cls ∧ (s.normalise raw).column.val = w.val
          ∧ (∀ target, s.windows[w].target = some target →
              (s.normalise raw).item = target + (raw - s.windows[w].base))
          ∧ (s.windows[w].target = none → (s.normalise raw).item = raw))
      ∧ ((∀ w : Fin 16,
          ¬ (s.windows[w].enabled = true ∧ s.windows[w].base ≤ raw ∧ raw < s.windows[w].base + 2 ^ s.windows[w].k)) →
        s.normalise raw = { item := raw, raw := none, cls := s.hall.defaultClass, column := 16 })
      ∧ (s.normalise raw).raw = (if (s.normalise raw).item = raw then none else some raw)
      ∧ ((∀ (w : Fin 16) (target : Item), s.windows[w].target = some target →
            target ≠ 0 ∧ target + 2 ^ s.windows[w].k - 1 ≤ 1099511627775) →
          1 ≤ raw → raw ≤ 1099511627775 → 1 ≤ (s.normalise raw).item ∧ (s.normalise raw).item ≤ 1099511627775)

/-- The key lookup: the first enabled window, in ascending number, whose image holds the key gives class and column; with
none, the default class and column 16. The image begins at the target, or at the base where there is none. -/
def Obligations.KeyLookupUsesTheWindowImages : Prop :=
  ∀ (s : State) (key : Item),
    (∀ w : Fin 16,
        (s.windows[w].enabled = true ∧ s.windows[w].target.getD s.windows[w].base ≤ key
          ∧ key < s.windows[w].target.getD s.windows[w].base + 2 ^ s.windows[w].k) →
        (∀ v : Fin 16, v < w →
          ¬ (s.windows[v].enabled = true ∧ s.windows[v].target.getD s.windows[v].base ≤ key
            ∧ key < s.windows[v].target.getD s.windows[v].base + 2 ^ s.windows[v].k)) →
        (s.keyLookup key).1 = s.windows[w].cls ∧ (s.keyLookup key).2.val = w.val)
      ∧ ((∀ w : Fin 16,
          ¬ (s.windows[w].enabled = true ∧ s.windows[w].target.getD s.windows[w].base ≤ key
            ∧ key < s.windows[w].target.getD s.windows[w].base + 2 ^ s.windows[w].k)) →
        s.keyLookup key = (s.hall.defaultClass, 16))

/-- The order of checks of one item: range, class, right, standing; the first that refuses gives its code. -/
def Obligations.ItemChecksRefuseInOrder : Prop :=
  ∀ (s : State) (k : ItemKind) (src : Source) (x : RawItem),
    let n := s.normalise x.item
    let badRange := ¬ (1 ≤ x.item ∧ x.item ≤ 1099511627775)
    let badLoad := k = .load ∧ (x.allowance = 0 ∨ 240 < x.allowance)
    let reference := (k = .hold ∨ k = .issue ∨ k = .confirm ∨ k = .load) ∧ n.cls = .reference
    let notStock := (k = .hold ∨ k = .issue ∨ k = .load) ∧ (n.cls = .exempt ∨ n.cls = .staff)
    let noRight := ∃ d : DeskId, src = .desk d
      ∧ ((k = .hold ∨ k = .issue ∨ k = .confirm ∨ k = .load) ∧ (s.rights[d][n.column] = .none ∨ s.rights[d][n.column] = .discharge)
          ∨ k = .discharge ∧ (s.rights[d][n.column] = .none ∨ s.rights[d][n.column] = .issue))
    let noStanding := (k = .hold ∨ k = .issue ∨ k = .confirm) ∧ n.cls = .restricted
      ∧ ∃ d : DeskId, src = .desk d ∧ s.standing[d] = none
    (badRange → s.checkItem k src x = .error .badItem)
      ∧ (¬ badRange → badLoad → s.checkItem k src x = .error .badValue)
      ∧ (¬ badRange → ¬ badLoad → reference → s.checkItem k src x = .error .referenceStock)
      ∧ (¬ badRange → ¬ badLoad → notStock → s.checkItem k src x = .error .notStock)
      ∧ (¬ badRange → ¬ badLoad → ¬ reference → ¬ notStock → noRight → s.checkItem k src x = .error .noRight)
      ∧ (¬ badRange → ¬ badLoad → ¬ reference → ¬ notStock → ¬ noRight → noStanding →
          s.checkItem k src x = .error .noStanding)
      ∧ (¬ badRange → ¬ badLoad → ¬ reference → ¬ notStock → ¬ noRight → ¬ noStanding → s.checkItem k src x = .ok n)

/-- STANDING, taken from desk `d`: BAD_ITEM for item 0, NO_STANDING for an item of another class, and for a staff card the
record becomes SUPERVISOR with that card, ending a standing time from now. END STANDING sets the sending desk's record to NONE
and answers DONE, whether it was in standing or not and in whichever order it meets the standing's end. STANDING END, once the
end is reached, sets the record to NONE. None of them makes a claim. -/
def Obligations.StandingIsGrantedClearedAndEnds : Prop :=
  (∀ (s : State) (d : DeskId) (kind : Byte) (i : Item), s.desk.work = .taken (.desk d) kind (.standing i) →
     (¬ (1 ≤ i ∧ i ≤ 1099511627775) → exec .standing s = .next (s.replyOn .desk kind (codeReply .badItem)))
       ∧ (1 ≤ i → i ≤ 1099511627775 → (s.normalise i).cls ≠ .staff →
           exec .standing s = .next (s.replyOn .desk kind (codeReply .noStanding)))
       ∧ (1 ≤ i → i ≤ 1099511627775 → (s.normalise i).cls = .staff →
           let record : Standing := { staffItem := (s.normalise i).item, ends := s.hallTime + 60000 * s.hall.standingTime }
           exec .standing s =
             .next ({ s with standing := s.standing.set d (some record) }.replyOn .desk kind (codeReply .done))))
    ∧ (∀ (s : State) (d : DeskId) (kind : Byte), s.desk.work = .taken (.desk d) kind .endStanding →
         exec .endStanding s = .next ({ s with standing := s.standing.set d none }.replyOn .desk kind (codeReply .done))
           ∧ ∀ t u, exec (.standingEnd d) s = .next t → exec .endStanding t = .next u → u.standing[d] = none ∧ u.port = s.port)
    ∧ (∀ (s : State) (d : DeskId) (r : Standing), s.standing[d] = some r → r.ends ≤ s.hallTime →
         exec (.standingEnd d) s = .next { s with standing := s.standing.set d none })

/-! ## Configuration -/

/-- SET HALL: eight values in range are written at once and answered DONE; with any value out of range nothing is written
and the answer is BAD_VALUE. -/
def Obligations.SetHallWritesAllOrNothing : Prop :=
  ∀ (s : State) (kind : Byte) (v : RawHall), s.link.work = .taken .link kind (.setHall v) →
    let inRange := (1 ≤ v.hallMark ∧ v.hallMark ≤ 65535) ∧ (1 ≤ v.defaultClass ∧ v.defaultClass ≤ 3)
      ∧ (1 ≤ v.allowance ∧ v.allowance ≤ 240) ∧ v.leeway ≤ 30 ∧ (2 ≤ v.pendingLimit ∧ v.pendingLimit ≤ 60)
      ∧ (1 ≤ v.standingTime ∧ v.standingTime ≤ 30) ∧ v.lateWindow ≤ 300 ∧ v.guardGap ≤ 20
    (inRange →
        exec .setHall s = .next ({ s with hall :=
          { hallMark := v.hallMark
            defaultClass := if v.defaultClass = 1 then .lending else if v.defaultClass = 2 then .reference else .restricted
            allowance := v.allowance, leeway := v.leeway, pendingLimit := v.pendingLimit, standingTime := v.standingTime,
            lateWindow := v.lateWindow, guardGap := v.guardGap } }.replyOn .link kind (codeReply .done)))
      ∧ (¬ inRange → exec .setHall s = .next (s.replyOn .link kind (codeReply .badValue)))

/-- SET WINDOW: a record that passes every check replaces the window's record, without its target where it does not
renumber, and is answered DONE; any other is answered BAD_VALUE and leaves every window as it was. -/
def Obligations.SetWindowReplacesACheckedRecord : Prop :=
  ∀ (s : State) (kind : Byte) (v : RawWindow), s.link.work = .taken .link kind (.setWindow v) →
    let refused := 15 < v.window ∨ 32 < v.k ∨ ¬ (1 ≤ v.cls ∧ v.cls ≤ 5) ∨ 1 < v.enabled ∨ 1 < v.renumber
      ∨ v.base % 2 ^ v.k ≠ 0 ∨ 1099511627775 < v.base + 2 ^ v.k - 1
      ∨ v.renumber = 1 ∧ (v.target = 0 ∨ v.target % 2 ^ v.k ≠ 0 ∨ 1099511627775 < v.target + 2 ^ v.k - 1 ∨ 4 ≤ v.cls)
    (refused → exec .setWindow s = .next (s.replyOn .link kind (codeReply .badValue)))
      ∧ (¬ refused → ∃ (w : Fin 16) (c : ItemClass), w.val = v.window ∧ c.number.toNat = v.cls ∧
          let record : StockWindow :=
            { enabled := decide (v.enabled = 1), base := v.base, k := v.k, cls := c,
              target := if v.renumber = 1 then some v.target else none }
          exec .setWindow s = .next ({ s with windows := s.windows.set w record }.replyOn .link kind (codeReply .done)))

/-- SET RIGHTS writes one cell, or with column 255 the whole row of the desk, and answers DONE; a desk, column or right out of
range is answered BAD_VALUE and changes nothing. -/
def Obligations.SetRightsWritesACellOrARow : Prop :=
  ∀ (s : State) (kind : Byte) (desk column right : Nat), s.link.work = .taken .link kind (.setRights desk column right) →
    let refused := desk = 0 ∨ 15 < desk ∨ (16 < column ∧ column ≠ 255) ∨ right = 0 ∨ 4 < right
    (refused → exec .setRights s = .next (s.replyOn .link kind (codeReply .badValue)))
      ∧ (¬ refused → ∃ rights, exec .setRights s = .next ({ s with rights := rights }.replyOn .link kind (codeReply .done))
          ∧ ∀ (d : DeskId) (c : Column),
              rights[d][c] =
                if d.val + 1 = desk ∧ (column = 255 ∨ c.val = column) then
                  (if right = 1 then Right.none else if right = 2 then .issue else if right = 3 then .discharge else .both)
                else s.rights[d][c])

/-- SET LANE is tested in the order lane number, DISABLED, values; a command that passes writes all fourteen settings. -/
def Obligations.SetLaneTestsThenWritesAllSettings : Prop :=
  ∀ (s : State) (kind : Byte) (v : RawLane), s.link.work = .taken .link kind (.setLane v) →
    let inRange := v.bandGroup ≤ 3 ∧ (1 ≤ v.sweepMode ∧ v.sweepMode ≤ 2) ∧ (1 ≤ v.halfCycle ∧ v.halfCycle ≤ 2)
      ∧ (20 ≤ v.roundTime ∧ v.roundTime ≤ 100) ∧ (30 ≤ v.roundTimeout ∧ v.roundTimeout ≤ 250)
      ∧ v.roundTime + 10 ≤ v.roundTimeout ∧ v.retryLimit ≤ 3 ∧ (1 ≤ v.tenure ∧ v.tenure ≤ 15)
      ∧ (1 ≤ v.confirmationCount ∧ v.confirmationCount ≤ 8) ∧ (1 ≤ v.missLimit ∧ v.missLimit ≤ 15)
      ∧ (v.grace ≤ 3000 ∧ v.grace % 100 = 0) ∧ v.verify ≤ 1 ∧ (1 ≤ v.outerOnly ∧ v.outerOnly ≤ 2)
      ∧ (1 ≤ v.faultPolicy ∧ v.faultPolicy ≤ 2) ∧ (1 ≤ v.soundingTime ∧ v.soundingTime ≤ 60)
    (7 < v.lane → exec .setLane s = .next (s.replyOn .link kind (codeReply .badValue)))
      ∧ ∀ l : LaneId, l.val = v.lane →
          ((s.lane l).state ≠ .disabled → exec .setLane s = .next (s.replyOn .link kind (codeReply .busy)))
            ∧ ((s.lane l).state = .disabled → ¬ inRange → exec .setLane s = .next (s.replyOn .link kind (codeReply .badValue)))
            ∧ ((s.lane l).state = .disabled → inRange →
                exec .setLane s = .next ((s.setLane l { s.lane l with settings :=
                  { bandGroup := Fin.ofNat 4 v.bandGroup
                    sweepMode := if v.sweepMode = 1 then .paired else .alternate
                    halfCycle := if v.halfCycle = 1 then .continue else .restart
                    roundTime := v.roundTime, roundTimeout := v.roundTimeout, retryLimit := v.retryLimit, tenure := v.tenure,
                    confirmationCount := v.confirmationCount, missLimit := v.missLimit, grace := v.grace,
                    verify := decide (v.verify = 1)
                    outerOnly := if v.outerOnly = 1 then .ignore else .judge
                    faultPolicy := if v.faultPolicy = 1 then .single else .stop
                    soundingTime := v.soundingTime } }).replyOn .link kind (codeReply .done)))

/-! ## Requests as their ports work them -/

/-- An item request works its items up to the first that passes its checks: each item refused before it has its code as its
result, with both flags clear, that item's claim is offered, with the request's options (a LOAD item's own allowance and lanes,
and no batch), and the port keeps the items after it. That no other step falls between these checks is the model's choice (log
entry 38); on the desk bus a claim waits behind one that a soft restart orphaned (log entry 19). -/
def Obligations.ItemRequestsOfferTheirFirstClaim : Prop :=
  ∀ (s : State) (p : PortId) (src : Source) (kind : Byte) (k : ItemKind) (o : RawOptions) (refused : List (RawItem × Code))
    (x : RawItem) (rest : List RawItem) (n : Normal),
    s.workOf p = .taken src kind (.items k o (refused.map Prod.fst ++ x :: rest)) → o.allowance ≤ 240 →
    (∀ r ∈ refused, s.checkItem k src r.1 = .error r.2) → s.checkItem k src x = .ok n → (k = .load → p = .link) →
    let request := Request.items k o (refused.map Prod.fst ++ x :: rest)
    let results := refused.map fun r => ({ code := r.2, atGate := false, alarmOpen := false, entry := none } : ItemResult)
    let options : ClaimOptions :=
      { batch := if o.batch = 0 then none else some o.batch, lanes := if o.lanes = 0 then none else some o.lanes,
        allowance := if o.allowance = 0 then none else some o.allowance }
    let own : ClaimOptions :=
      { batch := none, lanes := if x.lanes = 0 then none else some x.lanes,
        allowance := if x.allowance = 0 then none else some x.allowance }
    let claim := Claim.item k n.item src (if k = .load then own else options)
    let work := Work.items k src options rest results
    (p = .link → exec (request.command p) s =
        .next { s with port := { s.port with link := some claim }, link := { s.link with work := work } })
      ∧ (p = .desk → s.port.desk = none → exec (request.command p) s =
          .next { s with port := { s.port with desk := some claim }, desk := { s.desk with work := work } })
      ∧ (p = .desk → s.port.desk ≠ none → exec (request.command p) s =
          .next { s with port := { s.port with deskDeferred := some claim }, desk := { s.desk with work := work } })

/-- An item request whose options are out of range, or whose items are all refused at their checks, makes no claim: the reply
gives each item its code with both flags clear, in the order of the items, and nothing else changes. A request that its port
refuses whole is answered BAD_REQUEST, and nothing else changes. -/
def Obligations.RefusedRequestsMakeNoClaim : Prop :=
  (∀ (s : State) (p : PortId) (src : Source) (kind : Byte) (k : ItemKind) (o : RawOptions) (xs : List RawItem),
     s.workOf p = .taken src kind (.items k o xs) → (k = .load → p = .link) →
     (240 < o.allowance →
         exec ((Request.items k o xs).command p) s = .next (s.replyOn p k.number
           (itemsReply k (xs.map fun _ => { code := .badValue, atGate := false, alarmOpen := false, entry := none }))))
       ∧ ∀ cs : List Code, o.allowance ≤ 240 → xs.map (s.checkItem k src) = cs.map Except.error →
           exec ((Request.items k o xs).command p) s = .next (s.replyOn p k.number
             (itemsReply k (cs.map fun c => { code := c, atGate := false, alarmOpen := false, entry := none }))))
    ∧ (∀ (s : State) (p : PortId) (src : Source) (kind : Byte), s.workOf p = .taken src kind .bad →
         exec (.badRequest p) s = .next (s.replyOn p kind (codeReply .badRequest)))

/-- CONFIRM BATCH and CANCEL BATCH begin their series with the cursor and the count at 0, over the desk's own entries or those
of the source that the host names; a batch of 0 or a named source above 15 is answered BAD_VALUE. WALK and CLEAR TABLE offer
one claim each. -/
def Obligations.BatchWalkAndClearRequestsOfferTheirClaim : Prop :=
  (∀ (s : State) (p : PortId) (src : Source) (kind : Byte) (k : BatchKind) (b : Nat) (named : Option Nat),
     s.workOf p = .taken src kind (.batch k b named) →
     (∀ chosen : Source, b ≠ 0 → (∀ d, src = .desk d → chosen = .desk d) → (src = .link → named = some chosen.number) →
         let claim := Claim.batch k src chosen b 0
         (p = .link → exec ((Request.batch k b named).command p) s =
             .next { s with port := { s.port with link := some claim }, link := { s.link with work := .batch k 0 } })
           ∧ (p = .desk → s.port.desk = none → exec ((Request.batch k b named).command p) s =
               .next { s with port := { s.port with desk := some claim }, desk := { s.desk with work := .batch k 0 } }))
       ∧ ((b = 0 ∨ src = .link ∧ ∃ n, named = some n ∧ 15 < n) →
           exec ((Request.batch k b named).command p) s = .next (s.replyOn p k.number (codeReply .badValue))))
    ∧ (∀ (s : State) (kind : Byte),
         (∀ cursor, s.link.work = .taken .link kind (.walk cursor) →
             exec .walk s =
               .next { s with port := { s.port with link := some (.walk cursor) }, link := { s.link with work := .walk } })
           ∧ (s.link.work = .taken .link kind .clearTable →
               exec .clearTable s =
                 .next { s with port := { s.port with link := some .clearTable }, link := { s.link with work := .clearTable } }))

/-- ACK LANE: a lane above 7 is refused with BAD_VALUE, then a desk out of standing with NO_STANDING; otherwise every OPEN record
of the lane becomes ACKNOWLEDGED, closed now by the requester, the reply counts them, and the outputs follow. -/
def Obligations.AckLaneAcknowledgesTheOpenRecords : Prop :=
  ∀ (s : State) (p : PortId) (src : Source) (kind : Byte) (lane : Nat), s.workOf p = .taken src kind (.ackLane lane) →
    let standing := ∀ d, src = .desk d → s.standing[d] ≠ none
    (7 < lane → exec (.ackLane p) s = .next (s.replyOn p kind (codeReply .badValue)))
      ∧ (lane ≤ 7 → ¬ standing → exec (.ackLane p) s = .next (s.replyOn p kind (codeReply .noStanding)))
      ∧ ∀ l : LaneId, l.val = lane → standing →
          let records := s.log.records.map fun r =>
            if r.lane = l ∧ r.state = .opened then { r with state := .acknowledged, closedAt := some s.hallTime, closedBy := some src }
            else r
          let count := s.log.records.countP fun r => decide (r.lane = l ∧ r.state = .opened)
          exec (.ackLane p) s =
            .next ({ s with log := { s.log with records := records } }.replyOn p kind (countReply count)).drive

/-! ## The ring and the claims of the requests -/

/-- The ring: the port takes the claim of the first waiting claimant that follows the last one served; `nextRequest` names that
claim where it is a request port's. The claim leaves the port, and its claimant becomes the last served; a desk claim that waited
behind one that a soft restart orphaned takes its place (the model's choice, log entry 19). -/
def Obligations.TheRingServesTheNextWaitingClaimant : Prop :=
  ∀ p : TablePort,
    (p.waiting .desk = p.desk.isSome ∧ p.waiting .link = p.link.isSome ∧ p.waiting .judge = p.judge.isSome
        ∧ p.waiting .expiry = p.expiry.isSome)
      ∧ (p.turn = none ↔ p.desk = none ∧ p.link = none ∧ p.judge = none ∧ p.expiry = none)
      ∧ (∀ c, p.turn = some c →
          p.waiting c = true ∧ (p.served c).lastServed = c
            ∧ ∀ before after, ringAfter p.lastServed = before ++ c :: after → ∀ b ∈ before, p.waiting b = false)
      ∧ ringAfter .desk = [.link, .judge, .expiry, .desk] ∧ ringAfter .link = [.judge, .expiry, .desk, .link]
      ∧ ringAfter .judge = [.expiry, .desk, .link, .judge] ∧ ringAfter .expiry = [.desk, .link, .judge, .expiry]
      ∧ (∀ c, (p.nextRequest = some (.desk, c) ↔ p.turn = some .desk ∧ p.desk = some c)
          ∧ (p.nextRequest = some (.link, c) ↔ p.turn = some .link ∧ p.link = some c))
      ∧ p.served .desk = { p with lastServed := .desk, desk := p.deskDeferred, deskDeferred := none, deskOrphan := false }
      ∧ p.served .link = { p with lastServed := .link, link := none }
      ∧ p.served .judge = { p with lastServed := .judge, judge := none }
      ∧ p.served .expiry = { p with lastServed := .expiry, expiry := none }
      ∧ ∀ s : State, s.port = p →
          s.takeFrom .desk = { s with port := p.served .desk } ∧ s.takeFrom .link = { s with port := p.served .link }

/-- A claim's port goes on with the item's result: the next items are checked until one offers its claim, and after the last
the reply is formed; this is what `after` stands for in the statements about claims. The reply of an item request is the overall
code, the item's own of a request of one item that is no LOAD and else DONE (log entry 13), then each item's code and flags, then the entries
that a QUERY found, 20 bytes each. A reply is formed whole: the desk bus port releases the clock, and the service link port frames
the bytes with the start byte, the length, the kind and the check value. That forming a desk reply puts its first byte on the data
line and counts it as supplied is the model's choice (log entry 15), as is that a service reply leaves in one step (log entry 16).
AT_GATE is set while the judgement list holds the item in HELD_ABSENT, HELD_PENDING or VERIFYING, and ALARM_OPEN while the alarm log
holds a record of it in OPEN or ACKNOWLEDGED. -/
def Obligations.ItemsAreWorkedInOrderAndRepliesFormedWhole : Prop :=
  (∀ (s : State) (p : PortId) (k : ItemKind) (src : Source) (o : ClaimOptions) (rs : List ItemResult),
     s.workItems p k src o [] rs = s.replyOn p k.number (itemsReply k rs)
       ∧ (∀ x xs c, s.checkItem k src x = .error c →
           s.workItems p k src o (x :: xs) rs =
             s.workItems p k src o xs (rs ++ [{ code := c, atGate := false, alarmOpen := false, entry := none }]))
       ∧ ∀ x xs n, s.checkItem k src x = .ok n →
           s.workItems p k src o (x :: xs) rs =
             (s.offerClaim p (.item k n.item src (x.options k o))).setWork p (.items k src o xs rs))
    ∧ (∀ (s : State) (kind : Byte) (bytes : List Byte),
         s.replyOn .desk kind bytes =
             { s with desk := { s.desk with state := .replying, work := .idle, reply := bytes, supplied := 1,
                                            dataOut := bytes.headD 0, clockHeld := false } }
           ∧ (let body := beBytes 2 (bytes.length + 1) ++ [kind] ++ bytes
              s.replyOn .link kind bytes =
               { s with link := { s.link with state := .sending, work := .idle, sent := 0,
                                              reply := [0x7E] ++ body ++ beBytes 2 (crc body).toNat } }))
    ∧ (∀ (k : ItemKind) (rs : List ItemResult),
         let flags := fun (r : ItemResult) => (if r.atGate then (1 : Byte) else 0) + (if r.alarmOpen then 2 else 0)
         let parts := rs.flatMap (fun r => [r.code.number, flags r]) ++ rs.flatMap fun r => (r.entry.map Entry.bytes).getD []
         (∀ r, rs = [r] → k ≠ .load → itemsReply k rs = r.code.number :: parts)
           ∧ (k = .load ∨ rs.length ≠ 1 → itemsReply k rs = 1 :: parts))
    ∧ [Code.done, .renewed, .settled, .alreadyCleared, .heldElsewhere, .notOwner, .noEntry, .noRight, .noStanding, .referenceStock,
        .notStock, .pendingFull, .tableFull, .badItem, .badValue, .busy, .badRequest, .badFrame].map Code.number =
        [1, 2, 3, 4, 5, 6, 7, 8, 9, 10, 11, 12, 13, 14, 15, 16, 17, 18]
    ∧ (∀ c n, codeReply c = [c.number] ∧ countReply n = [1, BitVec.ofNat 8 n])
    ∧ (∀ (s : State) (i : Item),
         (s.atGate i = true ↔ ∃ j ∈ s.judge.entries, j.item = i
             ∧ (j.stage = .heldAbsent ∨ j.stage = .heldPending ∨ j.stage = .verifying))
           ∧ (s.alarmOpen i = true ↔ ∃ r ∈ s.log.records, r.item = i ∧ (r.state = .opened ∨ r.state = .acknowledged)))
    ∧ (∀ e : Entry, e.bytes =
         [(match e.stage with
           | .pending => 1
           | .cleared => 2
           | .departed => 3), BitVec.ofNat 8 e.source.number]
           ++ beBytes 2 (e.batch.getD 0) ++ [e.lanes.getD 0, BitVec.ofNat 8 e.allowance] ++ beBytes 6 e.created ++ beBytes 6 e.due
           ++ [BitVec.ofNat 8 e.exits, (e.lastLane.map fun l => BitVec.ofNat 8 l.val).getD 255])

/-- A HOLD claim, in every condition in which it can find its item's entry. An entry written to the table stands there for its item, in
place of one of the same item; the entries of every other item stay, and so does the order by item. -/
def Obligations.HoldClaimOutcomes : Prop :=
  (∀ (e : Entry) (es : List Entry),
     (∀ i, (insertEntry e es).find? (fun x => x.item == i) = if i = e.item then some e else es.find? fun x => x.item == i)
       ∧ (∀ x, x.item ≠ e.item → (x ∈ insertEntry e es ↔ x ∈ es))
       ∧ ((es.Pairwise fun a b => a.item < b.item) → (insertEntry e es).Pairwise fun a b => a.item < b.item))
    ∧ ∀ (s : State) (p : PortId) (i : Item) (src : Source) (o o' : ClaimOptions) (rest : List RawItem) (rs : List ItemResult),
    s.port.nextRequest = some (p, .item .hold i src o) → (p = .desk → s.port.deskOrphan = false) →
    s.workOf p = .items .hold src o' rest rs →
    let u := s.takeFrom p
    let after := fun (t : State) (c : Code) => t.workItems p .hold src o' rest
      (rs ++ [{ code := c, atGate := s.atGate i, alarmOpen := s.alarmOpen i, entry := none }])
    let entry : Entry :=
      { item := i, stage := .pending, source := src, batch := o.batch, lanes := o.lanes,
        allowance := o.allowance.getD s.hall.allowance, created := s.hallTime,
        due := s.hallTime + 1000 * s.hall.pendingLimit, exits := 0, lastLane := none }
    (s.findEntry i = none → 256 ≤ s.stageCount .pending ∨ 32 ≤ s.pendingCount src →
        exec .holdClaim s = .next (after u .pendingFull))
      ∧ (s.findEntry i = none → s.stageCount .pending < 256 → s.pendingCount src < 32 → s.table.entries.length < 4096 →
          exec .holdClaim s = .next (after
            { u with
                table := { u.table with
                  entries := insertEntry entry s.table.entries
                  pendingCounts := s.table.pendingCounts.set src.index (s.pendingCount src + 1) }
                judge := { u.judge with inbox := s.judge.inbox ++ [.notice i .pending] } } .done))
      ∧ ∀ e, s.findEntry i = some e →
          let restarted := { e with due := entry.due, batch := o.batch, lanes := o.lanes, allowance := entry.allowance }
          (e.stage = .pending → e.source = src → exec .holdClaim s = .next (after
            { u with table := { u.table with entries := insertEntry restarted s.table.entries } } .done))
            ∧ (e.stage = .pending → e.source ≠ src → exec .holdClaim s = .next (after u .heldElsewhere))
            ∧ (e.stage ≠ .pending → exec .holdClaim s = .next (after u .alreadyCleared))

/-- ISSUE and CONFIRM claims where no alarm is settled: creating, confirming, renewing, and the refusals. An alarm of the item
matters only where the item is absent, or PENDING for the claim's own source or for the host. -/
def Obligations.IssueAndConfirmClaimsThatDoNotSettle : Prop :=
  ∀ (s : State) (p : PortId) (k : ItemKind) (i : Item) (src : Source) (o o' : ClaimOptions) (rest : List RawItem)
    (rs : List ItemResult),
    s.port.nextRequest = some (p, .item k i src o) → (p = .desk → s.port.deskOrphan = false) →
    s.workOf p = .items k src o' rest rs →
    let u := s.takeFrom p
    let after := fun (t : State) (c : Code) => (t.workItems p k src o' rest
      (rs ++ [{ code := c, atGate := s.atGate i, alarmOpen := s.alarmOpen i, entry := none }])).drive
    let allowance := o.allowance.getD s.hall.allowance
    let created : Entry :=
      { item := i, stage := .cleared, source := src, batch := o.batch, lanes := o.lanes, allowance := allowance,
        created := s.hallTime, due := s.hallTime + 60000 * allowance, exits := 0, lastLane := none }
    let confirmed := fun (e : Entry) =>
      { e with stage := .cleared, allowance := o.allowance.getD e.allowance,
               due := s.hallTime + 60000 * o.allowance.getD e.allowance }
    let renewed := fun (e : Entry) =>
      { e with stage := .cleared, allowance := allowance, due := s.hallTime + 60000 * allowance,
               batch := o.batch.or e.batch, lanes := o.lanes.or e.lanes }
    let written := fun (e : Entry) (counts : Vector Nat 16) =>
      { u with table := { u.table with entries := insertEntry e s.table.entries, pendingCounts := counts }
               judge := { u.judge with inbox := s.judge.inbox ++ [.notice i .cleared] } }
    let lowered := fun (e : Entry) => s.table.pendingCounts.set e.source.index (s.pendingCount e.source - 1)
    (k = .issue →
        (s.findEntry i = none → s.settling i = none → s.table.entries.length < 4096 →
            exec .issueClaim s = .next (after (written created s.table.pendingCounts) .done))
          ∧ ∀ e, s.findEntry i = some e →
              (e.stage = .pending → (src = .link ∨ src = e.source) → s.settling i = none →
                  exec .issueClaim s = .next (after (written (confirmed e) (lowered e)) .done))
                ∧ (e.stage = .pending → ¬ (src = .link ∨ src = e.source) → exec .issueClaim s = .next (after u .heldElsewhere))
                ∧ (e.stage ≠ .pending →
                    exec .issueClaim s = .next (after (written (renewed e) s.table.pendingCounts) .renewed)))
      ∧ (k = .confirm →
          (s.findEntry i = none → s.settling i = none → exec .confirmClaim s = .next (after u .noEntry))
            ∧ ∀ e, s.findEntry i = some e →
                (e.stage = .pending → (src = .link ∨ src = e.source) → s.settling i = none →
                    exec .confirmClaim s = .next (after (written (confirmed e) (lowered e)) .done))
                  ∧ (e.stage = .pending → ¬ (src = .link ∨ src = e.source) →
                      exec .confirmClaim s = .next (after u .notOwner))
                  ∧ (e.stage ≠ .pending → exec .confirmClaim s = .next (after u .alreadyCleared)))

/-- ISSUE and CONFIRM claims that settle an alarm: on an absent item a DEPARTED entry is created, on the claim's own or the
host's PENDING entry it becomes DEPARTED in place; with a leeway of 0 no entry is left; the record becomes SETTLED. The settling
test finds the newest record of the item, of class UNISSUED or LAPSED, OPEN or ACKNOWLEDGED, raised no longer ago than the late
window, which is above 0. -/
def Obligations.IssueAndConfirmClaimsThatSettle : Prop :=
  (∀ (s : State) (p : PortId) (k : ItemKind) (c : Instr) (i : Item) (src : Source) (o o' : ClaimOptions) (rest : List RawItem)
     (rs : List ItemResult) (r : AlarmRecord),
     (k = .issue ∧ c = .issueClaim ∨ k = .confirm ∧ c = .confirmClaim) →
     s.port.nextRequest = some (p, .item k i src o) → (p = .desk → s.port.deskOrphan = false) →
     s.workOf p = .items k src o' rest rs → s.settling i = some r →
     let u := s.takeFrom p
     let log := { s.log with records := s.log.records.map fun x =>
       if x.number = r.number then { x with state := .settled, closedAt := some s.hallTime, closedBy := none } else x }
     let after := fun (t : State) => (t.workItems p k src o' rest
       (rs ++ [{ code := .settled, atGate := s.atGate i, alarmOpen := t.alarmOpen i, entry := none }])).drive
     let due := s.hallTime + 60000 * s.hall.leeway
     let created : Entry :=
       { item := i, stage := .departed, source := src, batch := o.batch, lanes := o.lanes,
         allowance := o.allowance.getD s.hall.allowance, created := s.hallTime, due := due, exits := 1, lastLane := some r.lane }
     (s.findEntry i = none → s.hall.leeway = 0 → exec c s = .next (after { u with log := log }))
       ∧ (s.findEntry i = none → s.hall.leeway ≠ 0 → s.table.entries.length < 4096 →
           exec c s = .next (after { u with table := { u.table with entries := insertEntry created s.table.entries }, log := log }))
       ∧ ∀ e, s.findEntry i = some e → e.stage = .pending → (src = .link ∨ src = e.source) →
           exec c s = .next (after
             { u with
                 table := { u.table with
                   entries := if s.hall.leeway = 0 then s.table.entries.filter fun x => x.item != i
                     else insertEntry { e with stage := .departed, allowance := o.allowance.getD e.allowance, due := due,
                                               exits := 1, lastLane := some r.lane } s.table.entries
                   pendingCounts := s.table.pendingCounts.set e.source.index (s.pendingCount e.source - 1) }
                 judge := { u.judge with inbox := s.judge.inbox ++ [.notice i .pendingGone] }
                 log := log }))
    ∧ (∀ (s : State) (i : Item),
         let meets := fun (r : AlarmRecord) => r.item = i ∧ (r.cls = .unissued ∨ r.cls = .lapsed)
           ∧ (r.state = .opened ∨ r.state = .acknowledged) ∧ 0 < s.hall.lateWindow
           ∧ s.hallTime - r.raised ≤ 1000 * s.hall.lateWindow
         (s.settling i = none ↔ ∀ r ∈ s.log.records, ¬ meets r)
           ∧ ∀ r, s.settling i = some r →
               ∃ older newer, s.log.records = older ++ r :: newer ∧ meets r ∧ ∀ x ∈ newer, ¬ meets x)

/-- A CANCEL claim, in every condition in which it can find its item's entry. -/
def Obligations.CancelClaimOutcomes : Prop :=
  ∀ (s : State) (p : PortId) (i : Item) (src : Source) (o o' : ClaimOptions) (rest : List RawItem) (rs : List ItemResult),
    s.port.nextRequest = some (p, .item .cancel i src o) → (p = .desk → s.port.deskOrphan = false) →
    s.workOf p = .items .cancel src o' rest rs →
    let u := s.takeFrom p
    let after := fun (t : State) (c : Code) => t.workItems p .cancel src o' rest
      (rs ++ [{ code := c, atGate := s.atGate i, alarmOpen := s.alarmOpen i, entry := none }])
    (s.findEntry i = none → exec .cancelClaim s = .next (after u .noEntry))
      ∧ ∀ e, s.findEntry i = some e →
          (e.stage = .pending → ¬ (src = .link ∨ src = e.source) → exec .cancelClaim s = .next (after u .notOwner))
            ∧ (e.stage = .pending → (src = .link ∨ src = e.source) → exec .cancelClaim s = .next (after
                { u with
                    table := { u.table with
                      entries := s.table.entries.filter fun x => x.item != i
                      pendingCounts := s.table.pendingCounts.set e.source.index (s.pendingCount e.source - 1) }
                    judge := { u.judge with inbox := s.judge.inbox ++ [.notice i .pendingGone] } } .done))
            ∧ (e.stage ≠ .pending → exec .cancelClaim s = .next (after u .alreadyCleared))

/-- DISCHARGE and QUERY claims, in every condition in which they can find their item's entry. -/
def Obligations.DischargeAndQueryClaimOutcomes : Prop :=
  ∀ (s : State) (p : PortId) (k : ItemKind) (i : Item) (src : Source) (o o' : ClaimOptions) (rest : List RawItem)
    (rs : List ItemResult),
    s.port.nextRequest = some (p, .item k i src o) → (p = .desk → s.port.deskOrphan = false) →
    s.workOf p = .items k src o' rest rs →
    let u := s.takeFrom p
    let after := fun (t : State) (c : Code) (x : Option Entry) => t.workItems p k src o' rest
      (rs ++ [{ code := c, atGate := s.atGate i, alarmOpen := s.alarmOpen i, entry := x }])
    (k = .discharge →
        (s.findEntry i = none → exec .dischargeClaim s = .next (after u .noEntry none))
          ∧ ∀ e, s.findEntry i = some e →
              (e.stage = .pending → exec .dischargeClaim s = .next (after u .heldElsewhere none))
                ∧ (e.stage ≠ .pending → exec .dischargeClaim s = .next (after
                    { u with table := { u.table with entries := s.table.entries.filter fun x => x.item != i } } .done none)))
      ∧ (k = .query →
          (s.findEntry i = none → exec .queryClaim s = .next (after u .noEntry none))
            ∧ ∀ e, s.findEntry i = some e → exec .queryClaim s = .next (after u .done (some e)))

/-- The claim of a LOAD item: it creates a CLEARED entry of source 0, renews a CLEARED or DEPARTED one, keeping its batch, and
leaves a PENDING one. -/
def Obligations.LoadClaimOutcomes : Prop :=
  ∀ (s : State) (i : Item) (src : Source) (o o' : ClaimOptions) (rest : List RawItem) (rs : List ItemResult),
    s.port.nextRequest = some (.link, .item .load i src o) → s.link.work = .items .load src o' rest rs → o.batch = none →
    let u := s.takeFrom .link
    let after := fun (t : State) (c : Code) => t.workItems .link .load src o' rest
      (rs ++ [{ code := c, atGate := s.atGate i, alarmOpen := s.alarmOpen i, entry := none }])
    let allowance := o.allowance.getD s.hall.allowance
    let created : Entry :=
      { item := i, stage := .cleared, source := .link, batch := none, lanes := o.lanes, allowance := allowance,
        created := s.hallTime, due := s.hallTime + 60000 * allowance, exits := 0, lastLane := none }
    let written := fun (e : Entry) =>
      { u with table := { u.table with entries := insertEntry e s.table.entries }
               judge := { u.judge with inbox := s.judge.inbox ++ [.notice i .cleared] } }
    (s.findEntry i = none → s.table.entries.length < 4096 → exec .loadClaim s = .next (after (written created) .done))
      ∧ ∀ e, s.findEntry i = some e →
          (e.stage = .pending → exec .loadClaim s = .next (after u .heldElsewhere))
            ∧ (e.stage ≠ .pending → exec .loadClaim s = .next (after (written
                { e with stage := .cleared, allowance := allowance, due := s.hallTime + 60000 * allowance,
                         lanes := o.lanes.or e.lanes }) .renewed))

/-- A full table. A HOLD that passed its limits, an ISSUE or LOAD item on an absent item, and an ISSUE or CONFIRM that settles an
alarm of an absent item while the leeway is above 0 would each add an entry: it evicts the DEPARTED entry with the earliest due
time, the lower item of two equal ones, and the evicted counter rises; then the claim does as with room. With no DEPARTED entry it
answers TABLE_FULL and raises the notice, and the table, the alarm record and what is on its way to the judgement unit stay as they
were. -/
def Obligations.AFullTableEvictsOrRefuses : Prop :=
  ∀ (s : State) (p : PortId) (k : ItemKind) (c : Instr) (i : Item) (src : Source) (o o' : ClaimOptions) (rest : List RawItem)
    (rs : List ItemResult),
    (k = .hold ∧ c = .holdClaim ∨ k = .issue ∧ c = .issueClaim ∨ k = .confirm ∧ c = .confirmClaim ∨ k = .load ∧ c = .loadClaim) →
    s.port.nextRequest = some (p, .item k i src o) → (p = .desk → s.port.deskOrphan = false) →
    s.workOf p = .items k src o' rest rs → s.findEntry i = none → s.tableOrdered → 4096 ≤ s.table.entries.length →
    let u := s.takeFrom p
    let after := fun (t : State) (code : Code) => t.workItems p k src o' rest
      (rs ++ [{ code := code, atGate := s.atGate i, alarmOpen := t.alarmOpen i, entry := none }])
    let answers := fun (t : State) (code : Code) =>
      exec c s = .next (if k = .issue ∨ k = .confirm then (after t code).drive else after t code)
    let noDeparted := ∀ e ∈ s.table.entries, e.stage ≠ .departed
    let refused := answers
      { u with link := { u.link with notices := { s.link.notices with tableFull := true }, noticeLine := true } } .tableFull
    let earliest := fun (v : Entry) => v ∈ s.table.entries ∧ v.stage = .departed
      ∧ ∀ e ∈ s.table.entries, e.stage = .departed → v.due < e.due ∨ v.due = e.due ∧ v.item ≤ e.item
    let evicting := fun (v e : Entry) => insertEntry e (s.table.entries.filter fun x => x.item != v.item)
    let allowance := o.allowance.getD s.hall.allowance
    let created := fun (stage : Stage) (due : Time) (exits : Nat) (lane : Option LaneId) =>
      ({ item := i, stage := stage, source := if k = .load then .link else src, batch := o.batch, lanes := o.lanes,
         allowance := allowance, created := s.hallTime, due := due, exits := exits, lastLane := lane } : Entry)
    ((k = .hold ∧ s.stageCount .pending < 256 ∧ s.pendingCount src < 32 ∨ k = .issue ∧ s.settling i = none ∨ k = .load) →
        (noDeparted → refused)
          ∧ ∀ v, earliest v → answers
              { u with
                  table := { s.table with
                    entries := evicting v (if k = .hold then created .pending (s.hallTime + 1000 * s.hall.pendingLimit) 0 none
                      else created .cleared (s.hallTime + 60000 * allowance) 0 none)
                    pendingCounts := if k = .hold then s.table.pendingCounts.set src.index (s.pendingCount src + 1)
                      else s.table.pendingCounts
                    evicted := s.table.evicted + 1 }
                  judge := { s.judge with inbox :=
                    s.judge.inbox ++ [.notice i (if k = .hold then .pending else .cleared)] } } .done)
      ∧ ((k = .issue ∨ k = .confirm) → s.hall.leeway ≠ 0 → ∀ r, s.settling i = some r →
          (noDeparted → refused)
            ∧ ∀ v, earliest v → answers
                { u with
                    table := { s.table with
                      entries := evicting v (created .departed (s.hallTime + 60000 * s.hall.leeway) 1 (some r.lane))
                      evicted := s.table.evicted + 1 }
                    log := { s.log with records := s.log.records.map fun x =>
                      if x.number = r.number then { x with state := .settled, closedAt := some s.hallTime, closedBy := none }
                      else x } } .settled)

/-- A claim of a batch series: it selects the PENDING entry of the selection with the lowest item above the cursor, confirms or
cancels it, and the series goes on with its item as the cursor, or ends at the count of 255; with no entry left the reply
carries the count. CONFIRM BATCH passes an entry for source 0 always, and for a desk that has the right to issue in the entry's
column, and standing where the entry's class is RESTRICTED, both by the key lookup of the entry's item. -/
def Obligations.BatchClaimsWorkTheSeries : Prop :=
  (∀ (s : State) (p : PortId) (k : BatchKind) (c : Instr) (requester sel : Source) (b : Nat) (cursor : Item) (count : Nat),
     (k = .confirm ∧ c = .confirmBatchClaim ∨ k = .cancel ∧ c = .cancelBatchClaim) →
     s.port.nextRequest = some (p, .batch k requester sel b cursor) →
     (p = .desk → s.port.deskOrphan = false) → s.workOf p = .batch k count → s.tableOrdered →
     let u := s.takeFrom p
     let selected := fun (e : Entry) => cursor < e.item ∧ e.stage = .pending ∧ e.source = sel ∧ e.batch = some b
     let goOn := fun (t : State) (e : Entry) (n : Nat) =>
       if 255 ≤ n then t.replyOn p k.number (countReply n)
       else (t.offerClaim p (.batch k requester sel b e.item)).setWork p (.batch k n)
     let lowered := fun (e : Entry) => s.table.pendingCounts.set e.source.index (s.pendingCount e.source - 1)
     ((∀ e ∈ s.table.entries, ¬ selected e) → exec c s = .next (u.replyOn p k.number (countReply count)))
       ∧ ∀ e ∈ s.table.entries, selected e → (∀ x ∈ s.table.entries, selected x → e.item ≤ x.item) →
           (k = .cancel → exec c s = .next (goOn
               { u with table := { u.table with entries := s.table.entries.filter fun x => x.item != e.item
                                                pendingCounts := lowered e }
                        judge := { u.judge with inbox := s.judge.inbox ++ [.notice e.item .pendingGone] } } e (count + 1)))
             ∧ (k = .confirm → s.batchAllows requester e = true → exec c s = .next (goOn
                 { u with table := { u.table with
                            entries := insertEntry { e with stage := .cleared, due := s.hallTime + 60000 * e.allowance }
                              s.table.entries
                            pendingCounts := lowered e }
                          judge := { u.judge with inbox := s.judge.inbox ++ [.notice e.item .cleared] } } e (count + 1)))
             ∧ (k = .confirm → s.batchAllows requester e = false → exec c s = .next (goOn u e count)))
    ∧ (∀ (s : State) (e : Entry),
         s.batchAllows .link e = true
           ∧ ∀ d : DeskId, s.batchAllows (.desk d) e = true ↔
               (s.rights[d][(s.keyLookup e.item).2] = .issue ∨ s.rights[d][(s.keyLookup e.item).2] = .both)
                 ∧ ((s.keyLookup e.item).1 = .restricted → s.standing[d] ≠ none))

/-- WALK answers, as one claim, the first 16 entries above the cursor in ascending item order with their count and changes no
entry; CLEAR TABLE answers BUSY unless every lane is DISABLED, and then empties the table, sets every pending count to 0 and
sends a PENDING_GONE notice for each PENDING entry in ascending item order, without counting. -/
def Obligations.WalkAndClearTableClaims : Prop :=
  ∀ s : State,
    (∀ cursor, s.port.nextRequest = some (.link, .walk cursor) →
        let above := (s.table.entries.filter fun e => decide (cursor < e.item)).take 16
        (s.tableOrdered → above.Pairwise fun a b => a.item < b.item)
          ∧ exec .walkClaim s = .next ((s.takeFrom .link).replyOn .link 10
            ([1, BitVec.ofNat 8 above.length] ++ above.flatMap fun e => beBytes 5 e.item ++ e.bytes)))
      ∧ (s.port.nextRequest = some (.link, .clearTable) →
          ((∃ l, (s.lane l).state ≠ .disabled) →
              exec .clearTableClaim s = .next ((s.takeFrom .link).replyOn .link 11 (codeReply .busy)))
            ∧ ((∀ l, (s.lane l).state = .disabled) →
                let u := s.takeFrom .link
                let gone := (s.table.entries.filter fun e => decide (e.stage = .pending)).map fun e =>
                  TableMessage.notice e.item .pendingGone
                exec .clearTableClaim s = .next ({ u with
                    table := { u.table with entries := [], pendingCounts := Vector.replicate 16 0 }
                    judge := { u.judge with inbox := s.judge.inbox ++ gone } }.replyOn .link 11 (codeReply .done))))

/-- A JUDGE claim: PASS on a CLEARED or DEPARTED entry whose lanes allow the lane, which departs (or leaves with a leeway of 0);
WRONG_LANE, PENDING and ABSENT change no entry. -/
def Obligations.JudgeClaimOutcomes : Prop :=
  ∀ (s : State) (i : Item) (l : LaneId), s.port.turn = some .judge → s.port.judge = some (i, l) →
    let answered := fun (table : ClearanceTable) (a : JudgeAnswer) =>
      { s with table := table, port := { s.port with lastServed := .judge, judge := none }
               judge := { s.judge with answer := some (i, true), inbox := s.judge.inbox ++ [.answer i a] } }
    (s.findEntry i = none → exec .judge s = .next (answered s.table .absent))
      ∧ ∀ e, s.findEntry i = some e →
          let allowed := ∀ set, e.lanes = some set → set.getLsbD l.val = true
          (e.stage = .pending → exec .judge s = .next (answered s.table .pending))
            ∧ (e.stage ≠ .pending → ¬ allowed → exec .judge s = .next (answered s.table .wrongLane))
            ∧ (e.stage ≠ .pending → allowed → exec .judge s = .next (answered
                { s.table with entries :=
                    if s.hall.leeway = 0 then s.table.entries.filter fun x => x.item != i
                    else insertEntry { e with stage := .departed, due := s.hallTime + 60000 * s.hall.leeway,
                                              exits := min 255 (e.exits + 1), lastLane := some l } s.table.entries } .pass))

/-- The expiry process names the entry with the earliest due time that has been reached, the lower item of two equal ones, and
offers its claim when it has none waiting. Its claim: an entry that is still due leaves by its stage (a PENDING one lowers its
source's count, counts as lapsed and sends PENDING_GONE; a CLEARED one counts as expired); a claim on an absent entry or one
whose due time lies in the future changes no entry. That the expiry process then looks again inside the same step is read from
R34 (log entry 30, DEDUCED). -/
def Obligations.ExpiryProcessAndItsClaims : Prop :=
  (∀ (s : State) (e : Entry), s.tableOrdered → s.port.expiry = none → e ∈ s.table.entries → e.due ≤ s.hallTime →
     (∀ x ∈ s.table.entries, x.due ≤ s.hallTime → e.due < x.due ∨ e.due = x.due ∧ e.item ≤ x.item) →
     exec .dueTimeReached s = .next { s with port := { s.port with expiry := some e.item } })
    ∧ (∀ (s : State) (i : Item), s.port.turn = some .expiry → s.port.expiry = some i →
         let u : State := { s with port := { s.port with lastServed := .expiry, expiry := none } }
         let rest := s.table.entries.filter fun x => x.item != i
         ((s.findEntry i = none ∨ ∃ e, s.findEntry i = some e ∧ s.hallTime < e.due) → exec .expiryClaim s = .next u.offerExpiry)
           ∧ ∀ e, s.findEntry i = some e → e.due ≤ s.hallTime →
               (e.stage = .pending → exec .expiryClaim s = .next ({ u with
                   table := { s.table with entries := rest, lapsed := s.table.lapsed + 1
                                           pendingCounts := s.table.pendingCounts.set e.source.index (s.pendingCount e.source - 1) }
                   judge := { s.judge with inbox := s.judge.inbox ++ [TableMessage.notice i .pendingGone] } }.offerExpiry))
                 ∧ (e.stage = .cleared → exec .expiryClaim s =
                     .next ({ u with table := { s.table with entries := rest, expired := s.table.expired + 1 } }.offerExpiry))
                 ∧ (e.stage = .departed → exec .expiryClaim s = .next ({ u with table := { s.table with entries := rest } }.offerExpiry)))

/-! ## Lanes and heads -/

/-- ENABLE LANE starts a DISABLED lane: STARTING, both heads UNKNOWN with failure counts of 0, and IDENT sent to both; in any
other state it answers BUSY and changes nothing else. DISABLE LANE on a DISABLED lane changes nothing but the reply; RESTART
LANE on one starts it as ENABLE LANE does. Each refuses a lane above 7 with BAD_VALUE, and RESTART LANE a desk out of standing
with NO_STANDING. That an ABORT still owed goes out just before the IDENT is read from R77 (log entry 7), and `sent`, the messages put on
a pair so far, is the model's choice (log entry 8). -/
def Obligations.LaneStartsAndRefusals : Prop :=
  (∀ (s : State) (kind : Byte) (lane : Nat), s.link.work = .taken .link kind (.enableLane lane) →
     (7 < lane → exec .enableLane s = .next (s.replyOn .link kind (codeReply .badValue)))
       ∧ ∀ l : LaneId, l.val = lane →
           let started := fun (u : HeadUnit) =>
             { u with state := .unknown, failures := 0, outstanding := some { command := .ident, sentAt := s.hallTime },
                      abortOwed := false, sent := u.sent ++ (if u.abortOwed then [.abort u.seq] else []) ++ [.ident] }
           ((s.lane l).state ≠ .disabled → exec .enableLane s = .next (s.replyOn .link kind (codeReply .busy)))
             ∧ ((s.lane l).state = .disabled →
                 exec .enableLane s = .next (((s.setLane l { s.lane l with
                   state := .starting, inner := started (s.lane l).inner, outer := started (s.lane l).outer }).replyOn .link kind
                     (codeReply .done)).drive)))
    ∧ (∀ (s : State) (p : PortId) (src : Source) (kind : Byte) (lane : Nat),
         (s.link.work = .taken .link kind (.disableLane lane) →
             (7 < lane → exec .disableLane s = .next (s.replyOn .link kind (codeReply .badValue)))
               ∧ ∀ l : LaneId, l.val = lane → (s.lane l).state = .disabled →
                   exec .disableLane s = .next ((s.replyOn .link kind (codeReply .done)).drive))
           ∧ (s.workOf p = .taken src kind (.restartLane lane) →
               let standing := ∀ d, src = .desk d → s.standing[d] ≠ none
               (7 < lane → exec (.restartLane p) s = .next (s.replyOn p kind (codeReply .badValue)))
                 ∧ (lane ≤ 7 → ¬ standing → exec (.restartLane p) s = .next (s.replyOn p kind (codeReply .noStanding)))
                 ∧ ∀ l : LaneId, l.val = lane → standing → (s.lane l).state = .disabled →
                     exec (.restartLane p) s = .next (((s.startLane l).replyOn p kind (codeReply .done)).drive)))

/-- On a lane that is not DISABLED, DISABLE LANE, and RESTART LANE by the host or a desk in standing: the lane's flight, buffer,
ask, probe queue, passages and awaited probes are gone, with every judgement it owned and the claim of one at the table port; the
band it held is released, with its guard end a guard gap from now, or with a guard gap of 0 to a waiting lane (an urgent ask
first, then the first in the search from the lane after the last holder), or to FREE, at once, and no other arbiter changes; each judgement not in DONE counts as dropped, and so does each passage on its way (log entry 6, DEDUCED),
and each ROUND out as aborted; sequence numbers and head counters are kept; the table is not touched; the lane ends
DISABLED, with an ABORT owed to each head whose ROUND or PROBE was out, or STARTING with that ABORT and then IDENT sent to both heads
(log entry 7 for the owed ABORT, DEDUCED, and in a DISABLED lane the model's choice; log entry 8 for `sent`). -/
def Obligations.LanesLeaveServiceWhole : Prop :=
  ∀ (s : State) (c : Instr) (p : PortId) (src : Source) (kind : Byte) (l : LaneId) (r : Request),
    s.workOf p = .taken src kind r →
    (c = .disableLane ∧ p = .link ∧ src = .link ∧ r = .disableLane l.val
      ∨ c = .restartLane p ∧ r = .restartLane l.val ∧ ∀ d, src = .desk d → s.standing[d] ≠ none) →
    (s.lane l).state ≠ .disabled →
    ∃ t, exec c s = .next t
      ∧ (t.lane l).state = (if c = .disableLane then .disabled else .starting)
      ∧ (t.lane l).flight = .nothing ∧ (t.lane l).buffer = none ∧ (t.lane l).ask = false ∧ (t.lane l).probes = []
      ∧ (t.lane l).passages = [] ∧ (t.lane l).awaited = [] ∧ (t.lane l).settings = (s.lane l).settings
      ∧ (∀ j ∈ t.judge.entries, j.owner ≠ l) ∧ (∀ j ∈ s.judge.entries, j.owner ≠ l → j ∈ t.judge.entries)
      ∧ (∀ i m, t.port.judge = some (i, m) → ∀ j ∈ s.judge.entries, j.item = i → j.owner ≠ l)
      ∧ t.holds l = false
      ∧ (s.holds l = true → s.hall.guardGap ≠ 0 → t.arbiter (s.groupOf l) =
          { s.arbiter (s.groupOf l) with band := .guarding, guardEnd := s.hallTime + s.hall.guardGap })
      ∧ (let g := s.groupOf l
         let waits := fun (m : LaneId) => m ≠ l ∧ (s.lane m).ask = true ∧ s.groupOf m = g
         let urgent := fun (m : LaneId) => waits m ∧ (s.lane m).probes ≠ []
         let first : LaneId := match (s.arbiter g).lastHolder with
           | none => 0
           | some holder => holder + 1
         let x := s.lane l
         (s.holds l = true → s.hall.guardGap = 0 →
             ((∀ m, ¬ waits m) → t.arbiter g = { s.arbiter g with band := .free, guardEnd := s.hallTime })
               ∧ ((∃ m, waits m) → ∃ m, waits m ∧ ((∃ k, urgent k) → urgent m)
                   ∧ (∀ k, waits k → (urgent m → urgent k) → (m - first).val ≤ (k - first).val) ∧ t.arbiter g =
                   { band := .held m, guardEnd := s.hallTime, lastHolder := some m
                     tenureCount := if (s.lane m).probes = [] then 1 else 0 }))
           ∧ (s.holds l = false → t.arbiter g = s.arbiter g) ∧ (∀ k, k ≠ g → t.arbiter k = s.arbiter k)
           ∧ (t.lane l).counts = { x.counts with
               dropped := (t.lane l).counts.dropped
               abortedRounds := x.counts.abortedRounds + (if x.inner.roundOut then 1 else 0) + (if x.outer.roundOut then 1 else 0) })
      ∧ (t.lane l).counts.dropped = (s.lane l).counts.dropped
          + BitVec.ofNat 32 ((s.judge.entries.countP fun j => decide (j.owner = l ∧ j.stage ≠ .done)) + s.passagesOnTheWay l)
      ∧ (∀ h, ((t.lane l).head h).state = .unknown ∧ ((t.lane l).head h).failures = 0
          ∧ ((t.lane l).head h).outstanding =
              (if c = .disableLane then none else some { command := .ident, sentAt := s.hallTime })
          ∧ ((t.lane l).head h).seq = ((s.lane l).head h).seq ∧ ((t.lane l).head h).retries = ((s.lane l).head h).retries
          ∧ ((t.lane l).head h).stale = ((s.lane l).head h).stale
          ∧ ((t.lane l).head h).badChecks = ((s.lane l).head h).badChecks
          ∧ (let u := (s.lane l).head h
             let v := (t.lane l).head h
             let owed := u.abortOwed || u.roundOut || u.probeOut
             (c = .disableLane → v.abortOwed = owed ∧ v.sent = u.sent)
               ∧ (c ≠ .disableLane → v.abortOwed = false
                   ∧ v.sent = u.sent ++ (if owed then [.abort u.seq] else []) ++ [.ident])))
      ∧ (p = .desk → t.desk.reply = [1] ∧ t.link.reply = s.link.reply)
      ∧ (p = .link → t.link.reply = linkFrame kind [1] ∧ t.desk = s.desk)
      ∧ t.hallTime = s.hallTime ∧ t.table = s.table ∧ t.log = s.log ∧ t.hall = s.hall ∧ t.windows = s.windows
      ∧ t.rights = s.rights ∧ t.standing = s.standing

/-- IDENT REPLY, taken while an IDENT is outstanding: the right position makes the head READY with a failure count of 0, the
wrong one makes it FAULTED at once; the lane leaves STARTING when the other head has left UNKNOWN, by the table of heads and
fault policy, and raises the FAULT notice on entering SINGLE or STOPPED. On entering IN_SERVICE or SINGLE it asks for the band: while
the arbiter is FREE it is granted at once and begins its work, and else its ask stands. (Lane.begun spells out the work; in it an owed
ABORT is log entry 7's and `sent` log entry 8's.) -/
def Obligations.IdentRepliesBringALaneIntoService : Prop :=
  ∀ (s : State) (l : LaneId) (h position : HeadPos) (message : List Byte),
    parseHeadMessage message = some (.ident position) → ((s.lane l).head h).identOut = true → (s.lane l).state = .starting →
    ∃ t, exec (.identReply l h message) s = .next t ∧ LanesOnly s t ∧
      let other := ((s.lane l).head (otherHead h)).state
      let stops := (s.lane l).settings.faultPolicy = .stop
      let faultRaised := t.link.notices.fault = true ∧ t.link.noticeLine = true
      (other = .unknown →
          (t.lane l).state = .starting
            ∧ (position = h → ((t.lane l).head h).state = .ready ∧ ((t.lane l).head h).failures = 0
                ∧ ((t.lane l).head h).outstanding = none)
            ∧ (position ≠ h → ((t.lane l).head h).state = .faulted
                ∧ ((t.lane l).head h).failures = ((s.lane l).head h).failures ∧ ((t.lane l).head h).outstanding = none))
        ∧ (position = h → other = .ready → (t.lane l).state = .inService ∧ t.link.notices = s.link.notices)
        ∧ ((position = h ∧ other = .faulted ∨ position ≠ h ∧ other = .ready) →
            (t.lane l).state = (if stops then .stopped else .single) ∧ faultRaised)
        ∧ (position ≠ h → other = .faulted → (t.lane l).state = .stopped ∧ faultRaised)
        ∧ (s.holds l = false →
            let x := s.lane l
            let g := s.groupOf l
            let taken := fun (u : HeadUnit) => if position = h then { u with state := .ready, outstanding := none, failures := 0 }
              else { u with state := .faulted, outstanding := none }
            let entersAndAsks := fun (state : LaneState) =>
              let z : Lane := { x.setHead h (taken (x.head h)) with state := state }
              ((s.arbiter g).band = .free → OutputsOnly (Lane.begun s.hallTime { z with ask := false }) (t.lane l)
                  ∧ t.arbiter g = { s.arbiter g with
                      band := .held l, lastHolder := some l, tenureCount := if x.probes = [] then 1 else 0 })
                ∧ ((s.arbiter g).band ≠ .free → OutputsOnly { z with ask := true } (t.lane l) ∧ t.arbiter g = s.arbiter g)
                ∧ (∀ m, m ≠ l → OutputsOnly (s.lane m) (t.lane m)) ∧ ∀ k, k ≠ g → t.arbiter k = s.arbiter k
            (position = h → other = .ready → entersAndAsks .inService)
              ∧ ((position = h ∧ other = .faulted ∨ position ≠ h ∧ other = .ready) → ¬ stops → entersAndAsks .single))

/-- A ROUND REPORT with the number awaited that completes a PAIRED, ALTERNATE or SINGLE cycle delivers one cycle report with the
cycle's halves, counts the cycle, and counts the half as lossy where the head overflowed. The holder then decides: a queued probe is
run and the band kept; with none queued, and another lane of the group waiting urgently, or waiting at all once the tenure is used
up, it releases the band, to GUARD until a guard gap from now, or with a guard gap of 0 to a waiting lane at once, and asks again; and
else it makes its next round start and its tenure count rises by one, to 15 at most. (Lane.begun spells out the probe and the round
start; in it an owed ABORT and a probe's wait for it are log entry 7's, DEDUCED, and `sent` is log entry 8's, DESIGN CHOICE.) -/
def Obligations.RoundReportsCompleteCycles : Prop :=
  ∀ (s : State) (l : LaneId) (h : HeadPos) (message : List Byte) (q : BitVec 8) (overflow : Bool) (codes : List TagCode)
    (form : Form) (inner outer : Option Half),
    parseHeadMessage message = some (.round q overflow codes) → ((s.lane l).head h).awaited = some (true, q) →
    (s.lane l).flight = .rounds form inner outer →
    let half : Half := { head := h, codes := codes, lossy := overflow, endTime := s.hallTime }
    let delivers := fun (r : CycleReport) => ∃ t, exec (.roundReport l h message) s = .next t
      ∧ (t.lane l).reports = (s.lane l).reports ++ [r]
      ∧ (t.lane l).counts.cycles = (s.lane l).counts.cycles + 1
      ∧ (t.lane l).counts.lossyRounds = (s.lane l).counts.lossyRounds + (if overflow then 1 else 0)
      ∧ (t.lane l).buffer = none ∧ LanesOnly s t
    (form = .paired → h = .inner → ∀ o, outer = some o →
        delivers { form := .paired, inner := some half, outer := some o })
      ∧ (form = .paired → h = .outer → ∀ i, inner = some i →
          delivers { form := .paired, inner := some i, outer := some half })
      ∧ (form = .alternate → h = .outer → delivers { form := .alternate, inner := (s.lane l).buffer, outer := some half })
      ∧ (∀ w, form = .single w → delivers
          { form := form, inner := if h = .inner then some half else none, outer := if h = .outer then some half else none })
      ∧ (let x := s.lane l
         let g := s.groupOf l
         let waits := fun (m : LaneId) => m ≠ l ∧ (s.lane m).ask = true ∧ s.groupOf m = g
         (form = .paired ∧ h = .inner ∧ outer ≠ none ∨ form = .paired ∧ h = .outer ∧ inner ≠ none ∨ form = .alternate ∧ h = .outer
             ∨ ∃ w, form = .single w) →
         x.probes = [] → x.ask = false →
         ((∃ m, waits m ∧ (s.lane m).probes ≠ []) ∨ x.settings.tenure ≤ (s.arbiter g).tenureCount ∧ ∃ m, waits m) →
         ∃ t, exec (.roundReport l h message) s = .next t ∧ (t.lane l).flight = .nothing ∧ (t.lane l).ask = true
           ∧ (s.hall.guardGap ≠ 0 → t.arbiter g =
               { s.arbiter g with band := .guarding, guardEnd := s.hallTime + s.hall.guardGap })
           ∧ (s.hall.guardGap = 0 → ∃ m, waits m ∧ (t.arbiter g).band = .held m))
      ∧ (let x := s.lane l
         let g := s.groupOf l
         let waits := fun (m : LaneId) => m ≠ l ∧ (s.lane m).ask = true ∧ s.groupOf m = g
         let completes := fun (r : CycleReport) =>
           (form = .paired ∧ h = .inner ∧ ∃ o, outer = some o ∧ r = { form := .paired, inner := some half, outer := some o })
             ∨ (form = .paired ∧ h = .outer ∧ ∃ i, inner = some i ∧ r = { form := .paired, inner := some i, outer := some half })
             ∨ (form = .alternate ∧ h = .outer ∧ r = { form := .alternate, inner := x.buffer, outer := some half })
             ∨ ∃ w, form = .single w ∧ r =
                 { form := form, inner := if h = .inner then some half else none, outer := if h = .outer then some half else none }
         ∀ r, completes r →
           let z : Lane := { x.setHead h { x.head h with state := .ready, outstanding := none, failures := 0 } with
             flight := .nothing
             buffer := none
             reports := x.reports ++ [r]
             counts := { x.counts with
               cycles := x.counts.cycles + 1, lossyRounds := x.counts.lossyRounds + (if overflow then 1 else 0) } }
           let goesOn := fun (a : BandArbiter) => ∃ t, exec (.roundReport l h message) s = .next t
             ∧ t.lane l = z.begun s.hallTime ∧ t.arbiter g = a
             ∧ (∀ m, m ≠ l → t.lane m = s.lane m) ∧ (∀ k, k ≠ g → t.arbiter k = s.arbiter k) ∧ LanesOnly s t
           (x.probes ≠ [] → goesOn (s.arbiter g))
             ∧ (x.probes = [] → ¬ (∃ m, waits m ∧ (s.lane m).probes ≠ []) →
                 ¬ (x.settings.tenure ≤ (s.arbiter g).tenureCount ∧ ∃ m, waits m) →
                 goesOn { s.arbiter g with tenureCount := min 15 ((s.arbiter g).tenureCount + 1) }))

/-- A ROUND REPORT with the number awaited that leaves its cycle incomplete, with or without the overflow that makes its half lossy
and counts it: the first half of a PAIRED cycle waits for the other head, its own head READY with a failure count of 0 and nothing
sent; the inner half of an ALTERNATE cycle, for a lane alone on its band with no probe, is followed by the outer ROUND, with the next
sequence number and the lane's round time. The cycle is broken where the holder gives way to a waiting lane, into GUARD or with a
guard gap of 0 to that lane at once, or runs a probe instead: the half-cycle policy CONTINUE keeps the inner half in the buffer, and
RESTART discards it.
The model's own in this: that an owed ABORT goes out just before the ROUND that follows it, and that the probe starts where no ABORT is owed (log
entry 7, DEDUCED); and the field `sent` (log entry 8, DESIGN CHOICE). -/
def Obligations.RoundReportsOfUnfinishedCycles : Prop :=
  ∀ (s : State) (l : LaneId) (h : HeadPos) (message : List Byte) (q : BitVec 8) (overflow : Bool) (codes : List TagCode)
    (form : Form) (inner outer : Option Half),
    parseHeadMessage message = some (.round q overflow codes) → ((s.lane l).head h).awaited = some (true, q) →
    (s.lane l).flight = .rounds form inner outer →
    let half : Half := { head := h, codes := codes, lossy := overflow, endTime := s.hallTime }
    let x := s.lane l
    let counted := { x.counts with lossyRounds := x.counts.lossyRounds + (if overflow then 1 else 0) }
    let ready := fun (u : HeadUnit) => { u with state := .ready, outstanding := none, failures := 0 }
    (form = .paired → (h = .inner → outer = none) → (h = .outer → inner = none) →
        exec (.roundReport l h message) s = .next (s.setLane l { x.setHead h (ready (x.head h)) with
          counts := counted
          flight := .rounds .paired (if h = .inner then some half else none) (if h = .outer then some half else none) }))
      ∧ (form = .alternate → h = .inner → x.probes = [] → x.outer.working = true →
          (∀ m, m ≠ l → (s.lane m).ask = true → s.groupOf m ≠ s.groupOf l) →
          let a := s.arbiter (s.groupOf l)
          let sent : HeadUnit :=
            { x.outer with state := .busy, seq := x.outer.seq + 1, abortOwed := false,
                           outstanding := some { command := .round (x.outer.seq + 1) x.settings.roundTime, sentAt := s.hallTime }
                           sent := x.outer.sent ++ (if x.outer.abortOwed then [.abort x.outer.seq] else [])
                             ++ [.round (x.outer.seq + 1) x.settings.roundTime] }
          exec (.roundReport l .inner message) s = .next
            ((s.setBand (s.groupOf l) { a with tenureCount := min 15 (a.tenureCount + 1) }).setLane l
              { x with inner := ready x.inner, outer := sent, counts := counted, buffer := some half,
                       flight := .rounds .alternate none none }))
      ∧ (form = .alternate → h = .inner →
          let g := s.groupOf l
          let waits := fun (m : LaneId) => m ≠ l ∧ (s.lane m).ask = true ∧ s.groupOf m = g
          let kept := if x.settings.halfCycle = .continue then some half else none
          (x.probes = [] →
              ((∃ m, waits m ∧ (s.lane m).probes ≠ []) ∨ x.settings.tenure ≤ (s.arbiter g).tenureCount ∧ ∃ m, waits m) →
              (s.hall.guardGap = 0 → x.ask = false) →
              ∃ t, exec (.roundReport l .inner message) s = .next t ∧ (t.lane l).flight = .nothing ∧ (t.lane l).ask = true
                ∧ (t.lane l).buffer = kept ∧ (t.lane l).reports = x.reports ∧ (t.lane l).counts = counted
                ∧ (s.hall.guardGap ≠ 0 → t.arbiter g =
                    { s.arbiter g with band := .guarding, guardEnd := s.hallTime + s.hall.guardGap })
                ∧ (s.hall.guardGap = 0 → ∃ m, waits m ∧ (t.arbiter g).band = .held m))
            ∧ (x.probes ≠ [] → x.inner.abortOwed = false → x.outer.abortOwed = false →
                ∃ t probe, exec (.roundReport l .inner message) s = .next t ∧ (t.lane l).flight = .probe probe false
                  ∧ (t.lane l).probes = x.probes ∧ (t.lane l).buffer = kept ∧ (t.lane l).reports = x.reports
                  ∧ (t.lane l).counts = counted ∧ t.arbiter g = s.arbiter g))

/-- PROBE REPORT with the number awaited: FOUND ends the probe SEEN, and aborts a PROBE still outstanding on the other head; NOT_FOUND
ends it NOT_SEEN (FAILED where a head it was sent to has faulted) once no other head is to answer, and an ALTERNATE probe goes on to
the outer head after the inner one's NOT_FOUND. When the probe has ended, the next queued probe starts and the band is kept; with an
empty queue the holder decides: it releases the band and asks again, or makes its round start, new or resumed. (Lane.begun spells out
the probe and the round start.)
The model's own in this: the ABORT that is owed, a further probe's wait for it, and that it goes out just before the outer PROBE (log
entry 7, DEDUCED); the field `sent` (log entry 8, DESIGN CHOICE); and that the awaited record leaves its list with the result, which
carries its mark (log entry 37, DEDUCED). -/
def Obligations.ProbeReportsEndOrContinueTheProbe : Prop :=
  ∀ (s : State) (l : LaneId) (h : HeadPos) (message : List Byte) (q : BitVec 8) (found faulted : Bool) (form : Form)
    (e : ProbeEntry) (queue : List ProbeEntry),
    parseHeadMessage message = some (.probe q found) → ((s.lane l).head h).awaited = some (false, q) →
    (s.lane l).flight = .probe form faulted → (s.lane l).probes = e :: queue →
    let x := s.lane l
    let other := x.head (otherHead h)
    let ready := fun (u : HeadUnit) => { u with state := .ready, outstanding := none, failures := 0 }
    let ends := fun (o : ProbeOutcome) (t : State) => exec (.probeReport l h message) s = .next t
      ∧ (t.lane l).results =
          x.results ++ [{ code := e.code, item := e.item, outcome := o, live := (x.awaited.head?.map AwaitedProbe.live).getD false }]
      ∧ (t.lane l).probes = queue ∧ (t.lane l).awaited = x.awaited.drop 1 ∧ LanesOnly s t
    (found = true → ∃ t, ends .seen t
        ∧ (other.probeOut = true →
            ((t.lane l).head (otherHead h)).probeOut = false
              ∧ (queue ≠ [] → (t.lane l).flight = .nothing
                  ∧ (t.lane l).head (otherHead h) = { other with state := .ready, outstanding := none, abortOwed := true })))
      ∧ (found = false → (form = .paired → other.probeOut = false) → (form = .alternate → h = .outer) →
          ∃ t, ends (if faulted then .failed else .notSeen) t)
      ∧ (found = false → form = .paired → other.probeOut = true →
          exec (.probeReport l h message) s = .next (s.setLane l (x.setHead h (ready (x.head h)))))
      ∧ (found = false → form = .alternate → h = .inner →
          let sent : HeadUnit :=
            { x.outer with state := .busy, seq := x.outer.seq + 1, abortOwed := false,
                           outstanding := some { command := .probe (x.outer.seq + 1) e.code, sentAt := s.hallTime }
                           sent := x.outer.sent ++ (if x.outer.abortOwed then [.abort x.outer.seq] else [])
                             ++ [.probe (x.outer.seq + 1) e.code] }
          exec (.probeReport l .inner message) s = .next (s.setLane l { x with inner := ready x.inner, outer := sent }))
      ∧ (let g := s.groupOf l
         let waits := fun (m : LaneId) => m ≠ l ∧ (s.lane m).ask = true ∧ s.groupOf m = g
         let releases := (∃ m, waits m ∧ (s.lane m).probes ≠ []) ∨ x.settings.tenure ≤ (s.arbiter g).tenureCount ∧ ∃ m, waits m
         let aborted := found = true ∧ (other.probeOut = true ∨ other.roundOut = true)
         let endsWith := fun (o : ProbeOutcome) => found = true ∧ o = .seen
           ∨ found = false ∧ (form = .paired → other.probeOut = false) ∧ (form = .alternate → h = .outer)
               ∧ o = if faulted then .failed else .notSeen
         ∀ o, endsWith o →
           let z : Lane := { (x.setHead h (ready (x.head h))).setHead (otherHead h)
               (if aborted then { other with state := .ready, outstanding := none, abortOwed := true } else other) with
             flight := .nothing
             probes := queue
             awaited := x.awaited.drop 1
             results := x.results ++ [{ code := e.code, item := e.item, outcome := o,
                                        live := (x.awaited.head?.map AwaitedProbe.live).getD false }] }
           let broken : Lane := { z with buffer := if x.settings.halfCycle = .continue then x.buffer else none }
           let becomes := fun (y : Lane) (a : BandArbiter) => ∃ t, exec (.probeReport l h message) s = .next t
             ∧ t.lane l = y ∧ t.arbiter g = a ∧ (∀ m, m ≠ l → t.lane m = s.lane m) ∧ (∀ k, k ≠ g → t.arbiter k = s.arbiter k)
           (queue ≠ [] → becomes (broken.begun s.hallTime) (s.arbiter g))
             ∧ (queue = [] → ¬ releases → becomes (z.begun s.hallTime)
                 { s.arbiter g with tenureCount := min 15 ((s.arbiter g).tenureCount + 1) })
             ∧ (queue = [] → releases → s.hall.guardGap ≠ 0 → becomes { broken with ask := true }
                 { s.arbiter g with band := .guarding, guardEnd := s.hallTime + s.hall.guardGap })
             ∧ (queue = [] → releases → s.hall.guardGap = 0 → x.ask = false →
                 ∃ t m, exec (.probeReport l h message) s = .next t ∧ t.lane l = { broken with ask := true } ∧ waits m
                   ∧ (t.arbiter g).band = .held m))

/-- A report that is not awaited, or an IDENT REPLY with no IDENT outstanding, is stale: the head's stale counter rises by one
and nothing else changes (but the outputs follow after an IDENT REPLY). A message is one of the three by the tests of its length,
check value, type and fields; one that fails any of them is none. The check value starts at all ones, and each byte, most significant
bit first, shifts it left eight times with the generator x^16 + x^12 + x^5 + 1. Numbers go most significant byte first. The messages
to a head are type, contents and check. -/
def Obligations.StaleReportsAreOnlyCounted : Prop :=
  ∀ (s : State) (l : LaneId) (h : HeadPos) (message : List Byte),
    let counted := s.setLane l ((s.lane l).setHead h
      { (s.lane l).head h with stale := ((s.lane l).head h).stale + 1 })
    (∀ q o cs, parseHeadMessage message = some (.round q o cs) → ((s.lane l).head h).awaited ≠ some (true, q) →
        exec (.roundReport l h message) s = .next counted)
      ∧ (∀ q f, parseHeadMessage message = some (.probe q f) → ((s.lane l).head h).awaited ≠ some (false, q) →
          exec (.probeReport l h message) s = .next counted)
      ∧ (∀ p, parseHeadMessage message = some (.ident p) → ((s.lane l).head h).identOut = false →
          exec (.identReply l h message) s = .next counted.drive)
      ∧ (let checked := fun (payload : List Byte) => parseHeadMessage (payload ++ crcBytes payload)
         checked [5, 1] = some (.ident .inner) ∧ checked [5, 2] = some (.ident .outer)
           ∧ (∀ q, checked [7, q, 1] = some (.probe q true) ∧ checked [7, q, 2] = some (.probe q false))
           ∧ ∀ (q : BitVec 8) (codes : List TagCode), codes.length ≤ 40 → (∀ c ∈ codes, c.mark < 2 ^ 16 ∧ c.item < 2 ^ 40) →
               let tags := codes.flatMap fun c => beBytes 2 c.mark ++ beBytes 5 c.item
               checked ([6, q, 0, BitVec.ofNat 8 codes.length] ++ tags) = some (.round q false codes)
                 ∧ checked ([6, q, 1, BitVec.ofNat 8 codes.length] ++ tags) = some (.round q true codes))
      ∧ (parseHeadMessage message ≠ none →
          let body := message.take (message.length - 2)
          3 ≤ message.length ∧ message.drop (message.length - 2) = crcBytes body
            ∧ (message.length = 4 ∧ message[0]? = some 5 ∧ (message[1]? = some 1 ∨ message[1]? = some 2)
              ∨ message.length = 5 ∧ message[0]? = some 7 ∧ (message[2]? = some 1 ∨ message[2]? = some 2)
              ∨ (∃ n : Byte, n.toNat ≤ 40 ∧ message[3]? = some n ∧ message.length = 6 + 7 * n.toNat) ∧ message[0]? = some 6
                  ∧ (message[2]? = some 0 ∨ message[2]? = some 1)))
      ∧ (let shift := fun (c : BitVec 16) => if c.getMsbD 0 then (c <<< 1) ^^^ 0x1021#16 else c <<< 1
         crc [] = 0xFFFF#16
           ∧ (∀ bytes b, crc (bytes ++ [b]) = shift^[8] (crc bytes ^^^ (b.setWidth 16 <<< 8)))
           ∧ crc [1] = 0xF1D1#16 ∧ crc [0x31, 0x32, 0x33, 0x34, 0x35, 0x36, 0x37, 0x38, 0x39] = 0x29B1#16
           ∧ ∀ bytes, crcBytes bytes = beBytes 2 (crc bytes).toNat)
      ∧ (beNat [] = 0 ∧ (∀ bytes b, beNat (bytes ++ [b]) = 256 * beNat bytes + b.toNat)
           ∧ ∀ k n, (beBytes k n).length = k ∧ beNat (beBytes k n) = n % 256 ^ k)
      ∧ (let message := fun (payload : List Byte) => payload ++ crcBytes payload
         HeadCommand.ident.bytes = [1, 0xF1, 0xD1]
           ∧ (∀ q dwell, (HeadCommand.round q dwell).bytes = message [2, q, BitVec.ofNat 8 dwell])
           ∧ (∀ q code, (HeadCommand.probe q code).bytes = message ([3, q] ++ beBytes 2 code.mark ++ beBytes 5 code.item))
           ∧ ∀ q, (HeadCommand.abort q).bytes = message [4, q])

/-- A failed attempt, by the round timeout or by a discarded message, within the retry limit: the same command is sent again with
the same number, the failure count and the retry counter rise by one, the wait starts anew, and the rollover flag is set as the
retry counter wraps; a discarded message also counts as a bad check, which is all it does with nothing outstanding. One attempt
beyond the retry limit faults the head: the number awaited is clear, and it is sent one ABORT with its sequence number. A lane
IN_SERVICE goes to SINGLE or STOPPED by its fault policy, a SINGLE lane to STOPPED, and a STARTING lane waits for its other head or
goes where the two heads and the policy take it; SINGLE and STOPPED raise the FAULT notice. A STOPPED lane has nothing in flight, no
buffer, ask or band, its other head's command is aborted and counted, its probes have FAILED in queue order, and no cycle is
delivered. A lane that goes on in SINGLE gets a lossy half for the round it had out on the head, which completes or leaves waiting the
PAIRED or ALTERNATE cycle; a probe it had out there waits for the other head of a PAIRED probe, goes on to the outer head of an
ALTERNATE one, or ends FAILED.
The model's own in this: that an ABORT is owed in the one step and sent in another (log entry 7, DEDUCED), the field `sent` (log
entry 8, DESIGN CHOICE), and that an awaited record leaves its list with the result, which carries its mark (log entry 37, DEDUCED). -/
def Obligations.FailedAttemptsAreRetriedOrFaultTheHead : Prop :=
  (∀ (s : State) (l : LaneId) (h : HeadPos) (message : List Byte),
     let u := (s.lane l).head h
     let retried := fun (v : HeadUnit) (a : Attempt) =>
       { v with failures := v.failures + 1, retries := v.retries + 1, rollover := v.rollover || v.retries == 0xFFFF#16,
                outstanding := some { command := a.command, sentAt := s.hallTime }, sent := v.sent ++ [a.command] }
     let bad := { u with badChecks := u.badChecks + 1 }
     let put := fun (v : HeadUnit) => (s.setLane l ((s.lane l).setHead h v)).drive
     (∀ a, u.outstanding = some a → u.failures + 1 ≤ (s.lane l).settings.retryLimit →
         (a.sentAt + (s.lane l).settings.roundTimeout ≤ s.hallTime → exec (.roundTimeout l h) s = .next (put (retried u a)))
           ∧ (parseHeadMessage message = none → exec (.headMessageDiscarded l h message) s = .next (put (retried bad a))))
       ∧ (u.outstanding = none → parseHeadMessage message = none → exec (.headMessageDiscarded l h message) s = .next (put bad)))
    ∧ (∀ (s : State) (l : LaneId) (h : HeadPos) (message : List Byte) (c : Instr) (a : Attempt),
         let x := s.lane l
         let u := x.head h
         let other := x.head (otherHead h)
         u.outstanding = some a → x.settings.retryLimit < u.failures + 1 →
         (c = .roundTimeout l h ∧ a.sentAt + x.settings.roundTimeout ≤ s.hallTime
           ∨ c = .headMessageDiscarded l h message ∧ parseHeadMessage message = none) →
         (x.state = .inService ∧ other.working = true ∨ x.state = .single ∨ x.state = .starting) →
         let waits := x.state = .starting ∧ other.state = .unknown
         let goesOn := (x.state = .inService ∨ x.state = .starting ∧ other.state = .ready) ∧ x.settings.faultPolicy = .single
         ∃ t, exec c s = .next t ∧ LanesOnly s t
           ∧ (t.lane l).head h =
               { u with state := .faulted, outstanding := none, abortOwed := false, failures := u.failures + 1,
                        badChecks := if c = .roundTimeout l h then u.badChecks else u.badChecks + 1,
                        sent := u.sent ++ [.abort u.seq] }
           ∧ (waits → (t.lane l).state = .starting ∧ t.link = s.link)
           ∧ (¬ waits → t.link.notices.fault = true ∧ t.link.noticeLine = true)
           ∧ (goesOn → (t.lane l).state = .single)
           ∧ (¬ waits → ¬ goesOn → (t.lane l).state = .stopped ∧ (t.lane l).flight = .nothing ∧ (t.lane l).buffer = none
               ∧ (t.lane l).ask = false ∧ t.holds l = false ∧ (t.lane l).probes = []
               ∧ (t.lane l).results = x.results ++ x.probes.zipIdx.map (fun e =>
                   { code := e.1.code, item := e.1.item, outcome := ProbeOutcome.failed,
                     live := (x.awaited[e.2]?.map AwaitedProbe.live).getD false })
               ∧ (t.lane l).awaited = x.awaited.drop x.probes.length
               ∧ (other.roundOut = true ∨ other.probeOut = true →
                   (t.lane l).head (otherHead h) = { other with state := .ready, outstanding := none, abortOwed := true })
               ∧ (t.lane l).counts.abortedRounds = x.counts.abortedRounds + (if other.roundOut then 1 else 0)
               ∧ (t.lane l).reports = x.reports ∧ (t.lane l).counts.cycles = x.counts.cycles)
           ∧ (x.state = .inService → goesOn →
               let lossy : Half := { head := h, codes := [], lossy := true, endTime := s.hallTime }
               let y := t.lane l
               let delivers := fun (r : CycleReport) =>
                 y.reports = x.reports ++ [r] ∧ y.counts.lossyRounds = x.counts.lossyRounds + 1
               let keeps := y.reports = x.reports ∧ y.counts.lossyRounds = x.counts.lossyRounds + 1
               let waitsOn := fun (f : Flight) => y.flight = f ∧ keeps
               (∀ i o, x.flight = .rounds .paired i o →
                   (h = .inner → (∀ b, o = some b → delivers { form := .paired, inner := some lossy, outer := some b })
                       ∧ (o = none → waitsOn (.rounds .paired (some lossy) none)))
                     ∧ (h = .outer → (∀ b, i = some b → delivers { form := .paired, inner := some b, outer := some lossy })
                       ∧ (i = none → waitsOn (.rounds .paired none (some lossy)))))
                 ∧ (∀ i o, x.flight = .rounds .alternate i o →
                     (h = .outer → delivers { form := .alternate, inner := x.buffer, outer := some lossy })
                       ∧ (h = .inner → keeps))
                 ∧ (∀ form faulted e queue, x.flight = .probe form faulted → x.probes = e :: queue →
                     let goesOnTo := fun (f : Flight) =>
                       y.flight = f ∧ y.probes = x.probes ∧ y.results = x.results ∧ y.awaited = x.awaited
                     let fails := y.probes = queue ∧ y.awaited = x.awaited.drop 1
                       ∧ y.results = x.results ++ [{ code := e.code, item := e.item, outcome := .failed,
                                                     live := (x.awaited.head?.map AwaitedProbe.live).getD false }]
                     (form = .paired → other.probeOut = true → goesOnTo (.probe .paired true))
                       ∧ (form = .paired → other.probeOut = false → fails)
                       ∧ (form = .alternate → h = .outer → fails)
                       ∧ (form = .alternate → h = .inner → goesOnTo (.probe .alternate true)
                           ∧ y.outer.awaited = some (false, x.outer.seq + 1)))))

/-- ABORT: the message that a head is owed is sent with the head's sequence number, which does not advance; a probe that waited
for it then starts.
The model's own in this: that an ABORT is owed in one step and sent in another, and that a probe waits for it (log entry 7,
DEDUCED); that one still owed is sent in a DISABLED lane too (log entry 7, DESIGN CHOICE); and the field `sent` (log entry 8,
DESIGN CHOICE). -/
def Obligations.OwedAbortsAreSent : Prop :=
  ∀ (s : State) (l : LaneId) (h : HeadPos), ((s.lane l).head h).abortOwed = true →
    let v := (s.lane l).head h
    let u := { v with abortOwed := false, sent := v.sent ++ [.abort v.seq] }
    let sent := s.setLane l ((s.lane l).setHead h u)
    ((s.holds l = false ∨ (s.lane l).probes = [] ∨ (s.lane l).flight ≠ .nothing) → exec (.abort l h) s = .next sent)
      ∧ ∀ e queue, s.holds l = true → (s.lane l).probes = e :: queue → (s.lane l).flight = .nothing →
          (((s.lane l).head (otherHead h)).working = true → ((s.lane l).head (otherHead h)).abortOwed = false) →
          ∃ t form, exec (.abort l h) s = .next t ∧ (t.lane l).flight = .probe form false ∧ (t.lane l).probes = e :: queue
            ∧ LanesOnly s t

/-- GUARD END, once the guard end is reached: with no lane of the group waiting the arbiter becomes FREE; otherwise one waiting
lane holds the band with its ask cleared, an urgent one if any ask is urgent, and of its class the first in ascending number
from the lane after the last holder. It begins its work at once. With a probe queued, the PROBE of the front entry's code is sent to
the heads of the lane's form, both for PAIRED, the inner for ALTERNATE, the working head for SINGLE, and the tenure count is 0. With
none queued, its first round start counts 1: the outer ROUND of a cycle whose inner half is buffered, or the ROUND of a new cycle to the
heads of the form; a buffered half whose outer head does not work is delivered first, with a lossy outer half. Each message advances
the head's sequence number, and nothing else of the lane changes.
The model's own in this: that the probe does not start while a working head of the lane owes an ABORT, and that an owed ABORT goes out
just before the message that follows it (log entry 7, DEDUCED); and the field `sent` (log entry 8, DESIGN CHOICE). -/
def Obligations.GuardEndGrantsTheBand : Prop :=
  ∀ (s : State) (g : GroupId), (s.arbiter g).band = .guarding → (s.arbiter g).guardEnd ≤ s.hallTime →
    let waits := fun (l : LaneId) => (s.lane l).ask = true ∧ s.groupOf l = g
    let urgent := fun (l : LaneId) => waits l ∧ (s.lane l).probes ≠ []
    let first : LaneId := match (s.arbiter g).lastHolder with
      | none => 0
      | some holder => holder + 1
    ((∀ l, ¬ waits l) → exec (.guardEnd g) s = .next (s.setBand g { s.arbiter g with band := .free }))
      ∧ ((∃ l, waits l) → ∃ t l, exec (.guardEnd g) s = .next t ∧ waits l
          ∧ ((∃ m, urgent m) → urgent l)
          ∧ (∀ m, waits m → (urgent l → urgent m) → (l - first).val ≤ (m - first).val)
          ∧ t.arbiter g = { s.arbiter g with
              band := .held l, tenureCount := if (s.lane l).probes = [] then 1 else 0, lastHolder := some l }
          ∧ (∀ k, k ≠ g → t.arbiter k = s.arbiter k) ∧ (∀ m, m ≠ l → t.lane m = s.lane m) ∧ LanesOnly s t
          ∧ (let x := s.lane l
             let form : Form := if x.state = .inService then (if x.settings.sweepMode = .paired then .paired else .alternate)
               else .single (if x.inner.working then .inner else .outer)
             let sent := fun (command : BitVec 8 → HeadCommand) (u : HeadUnit) =>
               { u with state := .busy, seq := u.seq + 1, abortOwed := false,
                        outstanding := some { command := command (u.seq + 1), sentAt := s.hallTime },
                        sent := u.sent ++ (if u.abortOwed then [.abort u.seq] else []) ++ [command (u.seq + 1)] }
             let sentInForm := fun (command : BitVec 8 → HeadCommand) (z : Lane) =>
               { z with ask := false
                        inner := if form = Form.single .outer then z.inner else sent command z.inner
                        outer := if form = Form.paired ∨ form = Form.single .outer then sent command z.outer else z.outer }
             let round := fun q => HeadCommand.round q x.settings.roundTime
             let newCycle := fun (z : Lane) => { sentInForm round z with flight := .rounds form none none }
             let owes := x.inner.working = true ∧ x.inner.abortOwed = true ∨ x.outer.working = true ∧ x.outer.abortOwed = true
             (∀ e queue, x.probes = e :: queue →
                 (owes → t.lane l = { x with ask := false })
                   ∧ (¬ owes → x.flight = .nothing →
                       t.lane l = { sentInForm (fun q => .probe q e.code) x with flight := .probe form false }))
               ∧ (x.probes = [] →
                   (x.buffer = none → t.lane l = newCycle x)
                     ∧ ∀ half, x.buffer = some half →
                         (x.outer.working = true →
                             t.lane l = { x with ask := false, outer := sent round x.outer, flight := .rounds .alternate none none })
                           ∧ (x.outer.working = false → t.lane l = newCycle { x with
                               buffer := none
                               counts := { x.counts with cycles := x.counts.cycles + 1, lossyRounds := x.counts.lossyRounds + 1 }
                               reports := x.reports ++ [{ form := .alternate, inner := some half, outer :=
                                 (some { head := .outer, codes := [], lossy := true, endTime := s.hallTime }) }] }))))

/-! ## Trackers and the judgement unit -/

/-- CYCLE REPORT: the tracker takes the first waiting report whole. The report is filtered and normalised: a half sees an item when
it lists a code of the hall mark, item not 0, that normalises to it. Every passage is updated. One at the miss limit leaves the list
when it is TRACKING, INNER, SETTLED or ENTERED, or OUTER under IGNORE, a SETTLED one with a removal report; an OUTER one under JUDGE
is leaving. New items are placed, stages decided, and the leaving passages become SENT and are handed over after the removals. A
passage that is SENT stays SENT in the list, its tallies raised by the halves that saw it, a confirmed time set where a tally
reaches the confirmation count, and its miss count back at 0, or raised where no half is lossy and neither saw it; foreign codes are
counted one by one; the list never exceeds 24 passages. The tallies, confirmed times and miss count of every other passage follow the
same rules. -/
def Obligations.CycleReportsUpdateSentPassages : Prop :=
  ∀ (s : State) (l : LaneId) (r : CycleReport) (rest : List CycleReport), (s.lane l).reports = r :: rest →
    ∃ t, exec (.cycleReport l) s = .next t ∧ (t.lane l).reports = rest ∧ LanesOnly s t
      ∧ (∀ m, m ≠ l → t.lane m = s.lane m)
      ∧ (t.lane l).counts.foreignCodes = (s.lane l).counts.foreignCodes
          + BitVec.ofNat 32 (((r.inner.map (foreignCount s.hall.hallMark)).getD 0)
              + ((r.outer.map (foreignCount s.hall.hallMark)).getD 0))
      ∧ ((s.lane l).passages.length ≤ 24 → ((s.lane l).passages.map Passage.item).Nodup →
          (t.lane l).passages.length ≤ 24 ∧ ((t.lane l).passages.map Passage.item).Nodup)
      ∧ (((s.lane l).passages.map Passage.item).Nodup → ∀ p ∈ (s.lane l).passages, p.stage = .sent →
          let count := (s.lane l).settings.confirmationCount
          let lossy := ∃ x, (r.inner = some x ∨ r.outer = some x) ∧ x.lossy = true
          let seenIn := fun (half : Option Half) => ∃ x, half = some x ∧ sees (s.sightings x) p.item = true
          ∃ n ∈ (t.lane l).passages, n.item = p.item ∧ n.stage = .sent ∧ n.raw = p.raw ∧ n.cls = p.cls ∧ n.window = p.window
            ∧ n.firstSeen = p.firstSeen ∧ n.firstHead = p.firstHead ∧ n.verdict = p.verdict
            ∧ (seenIn r.inner → n.innerTally = min 15 (p.innerTally + 1)) ∧ (¬ seenIn r.inner → n.innerTally = p.innerTally)
            ∧ (seenIn r.outer → n.outerTally = min 15 (p.outerTally + 1)) ∧ (¬ seenIn r.outer → n.outerTally = p.outerTally)
            ∧ (p.innerConfirmed ≠ none → n.innerConfirmed = p.innerConfirmed)
            ∧ (∀ x, r.inner = some x → p.innerConfirmed = none → seenIn r.inner → p.innerTally + 1 = count →
                n.innerConfirmed = some x.endTime)
            ∧ (p.outerConfirmed ≠ none → n.outerConfirmed = p.outerConfirmed)
            ∧ (∀ x, r.outer = some x → p.outerConfirmed = none → seenIn r.outer → p.outerTally + 1 = count →
                n.outerConfirmed = some x.endTime)
            ∧ (seenIn r.inner ∨ seenIn r.outer → n.missCount = 0)
            ∧ (¬ seenIn r.inner → ¬ seenIn r.outer →
                (lossy → n.missCount = p.missCount) ∧ (¬ lossy → n.missCount = min 15 (p.missCount + 1))))
      ∧ (let x := s.lane l
         let settings := x.settings
         let w := s.sweep r
         let updated := x.passages.map (updatePassage settings.confirmationCount w)
         let gone := fun (t : Tracked) => decide (settings.missLimit ≤ t.p.missCount ∧ (t.p.stage = .tracking ∨ t.p.stage = .inner
           ∨ t.p.stage = .settled ∨ t.p.stage = .entered ∨ t.p.stage = .outer ∧ settings.outerOnly = .ignore))
         let kept := (updated.filter fun t => !gone t).map fun t =>
           if settings.missLimit ≤ t.p.missCount ∧ t.p.stage = .outer ∧ settings.outerOnly = .judge then { t with leaving := true }
           else t
         let removed := (updated.filter fun t => gone t && decide (t.p.stage = .settled)).map fun t => TrackerMessage.removed t.p.item
         let placed := (newItems w x.passages).foldl (placeNew settings.confirmationCount w)
           { list := kept, messages := removed, drops := 0 }
         let decided := placed.list.map (decideStage r.form)
         let entered := fun (ts : List Tracked) => ts.countP fun t => decide (t.p.stage = .entered)
         (t.lane l).passages = decided.map sendLeaving
           ∧ (t.lane l).toJudge = x.toJudge ++ placed.messages
               ++ (decided.filter Tracked.leaving).map (fun t => TrackerMessage.leaving t.p.item t.p.raw t.p.cls)
           ∧ (t.lane l).counts.entered = x.counts.entered + BitVec.ofNat 32 (entered decided - entered placed.list)
           ∧ (t.lane l).counts.crowdDrops = x.counts.crowdDrops + BitVec.ofNat 32 placed.drops
           ∧ t.link = (if placed.drops = 0 then s.link
               else { s.link with notices := { s.link.notices with crowd := true }, noticeLine := true })
           ∧ ∀ p, let seenInner := ∃ y, r.inner = some y ∧ sees (s.sightings y) p.item = true
                  let seenOuter := ∃ y, r.outer = some y ∧ sees (s.sightings y) p.item = true
                  let u := updatePassage settings.confirmationCount w p
                  (u.newInner = true ↔ seenInner ∧ p.innerTally + 1 = settings.confirmationCount ∧ p.innerConfirmed = none)
                    ∧ (u.newOuter = true ↔ seenOuter ∧ p.outerTally + 1 = settings.confirmationCount ∧ p.outerConfirmed = none)
                    ∧ u.leaving = false ∧ u.fresh = false
                    ∧ u.p = { p with
                        innerTally := u.p.innerTally, outerTally := u.p.outerTally, innerConfirmed := u.p.innerConfirmed,
                        outerConfirmed := u.p.outerConfirmed, missCount := u.p.missCount }
                    ∧ (seenInner → u.p.innerTally = min 15 (p.innerTally + 1)) ∧ (¬ seenInner → u.p.innerTally = p.innerTally)
                    ∧ (seenOuter → u.p.outerTally = min 15 (p.outerTally + 1)) ∧ (¬ seenOuter → u.p.outerTally = p.outerTally)
                    ∧ (∀ y, r.inner = some y → u.newInner = true → u.p.innerConfirmed = some y.endTime)
                    ∧ (u.newInner = false → u.p.innerConfirmed = p.innerConfirmed)
                    ∧ (∀ y, r.outer = some y → u.newOuter = true → u.p.outerConfirmed = some y.endTime)
                    ∧ (u.newOuter = false → u.p.outerConfirmed = p.outerConfirmed)
                    ∧ (seenInner ∨ seenOuter → u.p.missCount = 0)
                    ∧ (¬ seenInner → ¬ seenOuter →
                        ((∃ y, (r.inner = some y ∨ r.outer = some y) ∧ y.lossy = true) → u.p.missCount = p.missCount)
                          ∧ ((∀ y, r.inner = some y ∨ r.outer = some y → y.lossy = false) →
                              u.p.missCount = min 15 (p.missCount + 1))))
      ∧ ∀ (half : Half) (i : Item), sees (s.sightings half) i = true ↔
          ∃ c ∈ half.codes, c.mark = s.hall.hallMark ∧ c.item ≠ 0 ∧ (s.normalise c.item).item = i

/-- The new items of a report are those of the inner half that no passage has, then those of the outer half alone, in their order. Each
gets a passage at the back of the list, seen at the inner half's end time if that half saw it; in a full list of 24 it takes the place
of the oldest SETTLED or ENTERED passage not made in this report, the removal of a SETTLED one being reported, or failing that of the
oldest TRACKING one, or else its sighting is dropped and counted.
The stage decisions of a passage, by the report's form and the confirmations made in it, and what is sent on; a passage that no row
moves stays as it was, and no decision changes anything but the stage or the mark of leaving; and VERDICT:
the tracker takes the first waiting verdict, the SENT passage of its item becomes SETTLED with it, and nothing else of the list
changes. -/
def Obligations.PassageStagesFollowConfirmationsAndVerdicts : Prop :=
  (∀ (t : Tracked) (form : Form),
     (t.leaving = false → t.p.stage = .tracking → form = .paired ∨ form = .alternate →
         (t.newInner = true → t.newOuter = false → (decideStage form t).p.stage = .inner ∧ (decideStage form t).leaving = false)
           ∧ (t.newInner = false → t.newOuter = true →
               (decideStage form t).p.stage = .outer ∧ (decideStage form t).leaving = false)
           ∧ (t.newInner = true → t.newOuter = true → form = .paired → t.p.firstHead = .outer →
               (decideStage form t).p.stage = .entered ∧ (decideStage form t).leaving = false)
           ∧ (t.newInner = true → t.newOuter = true → form = .alternate ∨ t.p.firstHead ≠ .outer →
               (decideStage form t).leaving = true))
       ∧ (t.p.stage = .inner → t.newOuter = true → form = .paired ∨ form = .alternate → (decideStage form t).leaving = true)
       ∧ (t.leaving = false → t.p.stage = .outer → t.newInner = true → form = .paired ∨ form = .alternate →
           (decideStage form t).p.stage = .entered ∧ (decideStage form t).leaving = false)
       ∧ (∀ h, form = .single h → t.p.stage = .tracking ∨ t.p.stage = .inner ∨ t.p.stage = .outer →
           (h = .inner → t.p.innerConfirmed ≠ none) → (h = .outer → t.p.outerConfirmed ≠ none) →
           (decideStage form t).leaving = true)
       ∧ (t.p.stage = .sent ∨ t.p.stage = .settled ∨ t.p.stage = .entered → decideStage form t = t)
       ∧ (form = .paired ∨ form = .alternate →
           (t.newInner = false → t.newOuter = false → decideStage form t = t)
             ∧ (t.p.stage = .inner → t.newOuter = false → decideStage form t = t)
             ∧ (t.p.stage = .outer → t.newInner = false → decideStage form t = t))
       ∧ (∀ h, form = .single h → (h = .inner → t.p.innerConfirmed = none) → (h = .outer → t.p.outerConfirmed = none) →
           decideStage form t = t)
       ∧ decideStage form t =
           { t with leaving := (decideStage form t).leaving, p := { t.p with stage := (decideStage form t).p.stage } }
       ∧ (t.leaving = false → (decideStage form t).leaving = true → (decideStage form t).p = t.p)
       ∧ sendLeaving t = { t.p with stage := if t.leaving then .sent else t.p.stage })
    ∧ (∀ (s : State) (l : LaneId) (i : Item) (v : Verdict) (rest : List (Item × Verdict)), (s.lane l).verdicts = (i, v) :: rest →
         exec (.verdict l) s = .next (s.setLane l { s.lane l with
           verdicts := rest
           passages := (s.lane l).passages.map fun p =>
             if p.item = i ∧ p.stage = .sent then { p with stage := .settled, verdict := some v } else p }))
    ∧ (∀ (w : Sweep) (ps : List Passage),
         newItems w ps = w.inner.filter (fun n => decide (∀ p ∈ ps, p.item ≠ n.item))
           ++ w.outer.filter fun n => decide ((∀ p ∈ ps, p.item ≠ n.item) ∧ ∀ m ∈ w.inner, m.item ≠ n.item))
    ∧ (∀ (count : Nat) (w : Sweep) (n : Normal),
         let seenInner := sees w.inner n.item
         let seenOuter := sees w.outer n.item
         let t := newPassage count w n
         t.p.item = n.item ∧ t.p.raw = n.raw ∧ t.p.window = n.column ∧ t.p.cls = n.cls ∧ t.p.stage = .tracking ∧ t.p.missCount = 0
           ∧ t.p.verdict = none ∧ t.fresh = true ∧ t.leaving = false
           ∧ t.p.firstSeen = (if seenInner then w.innerEnd else w.outerEnd)
           ∧ t.p.firstHead = (if seenInner && seenOuter then .both else if seenInner then .inner else .outer)
           ∧ t.p.innerTally = (if seenInner then 1 else 0) ∧ t.p.outerTally = (if seenOuter then 1 else 0)
           ∧ t.p.innerConfirmed = (if seenInner ∧ count = 1 then some w.innerEnd else none)
           ∧ t.p.outerConfirmed = (if seenOuter ∧ count = 1 then some w.outerEnd else none)
           ∧ (t.newInner = true ↔ seenInner = true ∧ count = 1) ∧ (t.newOuter = true ↔ seenOuter = true ∧ count = 1))
    ∧ (∀ (count : Nat) (w : Sweep) (work : Working) (n : Normal),
         let decidedOne := fun (t : Tracked) => t.fresh = false ∧ (t.p.stage = .settled ∨ t.p.stage = .entered)
         let unconfirmed := fun (t : Tracked) => t.fresh = false ∧ t.p.stage = .tracking
         let replaces := fun (v : Tracked) => placeNew count w work n =
           { work with list := (work.list.filter fun t => t.p.item != v.p.item) ++ [newPassage count w n]
                       messages := work.messages ++ if v.p.stage = .settled then [.removed v.p.item] else [] }
         (work.list.length < 24 → placeNew count w work n = { work with list := work.list ++ [newPassage count w n] })
           ∧ (24 ≤ work.list.length →
               (∀ older v newer, work.list = older ++ v :: newer → decidedOne v → (∀ t ∈ older, ¬ decidedOne t) → replaces v)
                 ∧ ((∀ t ∈ work.list, ¬ decidedOne t) →
                     (∀ older v newer, work.list = older ++ v :: newer → unconfirmed v → (∀ t ∈ older, ¬ unconfirmed t) → replaces v)
                       ∧ ((∀ t ∈ work.list, ¬ unconfirmed t) → placeNew count w work n = { work with drops := work.drops + 1 }))))

/-- PASSAGE of an item with no judgement: EXEMPT and STAFF are passed at once in DONE with the verdict EXEMPT; REFERENCE goes to
verification with the reason REFERENCE, which a lane with verify off ends in an unverified REFERENCE alarm; any other class joins
the asking queue in ASKING, and its claim is offered when the unit has none out. -/
def Obligations.PassagesOpenJudgements : Prop :=
  ∀ (s : State) (l : LaneId) (i : Item) (raw : Option Item) (cls : ItemClass) (rest : List TrackerMessage),
    (s.lane l).toJudge = .leaving i raw cls :: rest → (∀ j ∈ s.judge.entries, j.item ≠ i) →
    let x := s.lane l
    let opened : Judgement :=
      { item := i, owner := l, raw := raw, cls := cls, reason := none, stage := .asking, graceEnd := none, verdict := none,
        alarmNumber := none }
    ((cls = .exempt ∨ cls = .staff) →
        exec (.passage l) s = .next ({ s with
          lanes := s.lanes.set l { x with toJudge := rest, verdicts := x.verdicts ++ [(i, Verdict.exempt)],
                                          counts := { x.counts with exemptPasses := x.counts.exemptPasses + 1 } }
          judge := { s.judge with
            entries := s.judge.entries ++ [{ opened with stage := .done, verdict := some .exempt }] } }.drive))
      ∧ ((cls = .lending ∨ cls = .restricted) →
          exec (.passage l) s = .next ({ s with
            lanes := s.lanes.set l { x with toJudge := rest }
            judge := { s.judge with entries := s.judge.entries ++ [opened], asking := s.judge.asking ++ [i] }
            port := { s.port with judge :=
              if s.port.judge = none ∧ s.judge.answer = none then
                (s.judge.asking ++ [i]).head?.bind fun k =>
                  ((s.judge.entries ++ [opened]).find? fun (n : Judgement) => n.item == k).map fun (n : Judgement) => (k, n.owner)
              else s.port.judge } }.drive))
      ∧ (cls = .reference → exec (.passage l) s = .next (({ s with
          lanes := s.lanes.set l { x with toJudge := rest }
          judge := { s.judge with
            entries := s.judge.entries ++ [{ opened with stage := .verifying, reason := some .reference }] } } : State).verify i).drive)
      ∧ (cls = .reference → x.settings.verify = false →
          ∃ t a, exec (.passage l) s = .next t
            ∧ t.findJudgement i = some { opened with
                reason := some .reference, stage := .done, verdict := some .alarm, alarmNumber := some a.number }
            ∧ t.log.records.getLast? = some a ∧ a.lane = l ∧ a.item = i ∧ a.raw = raw ∧ a.cls = .reference
            ∧ a.unverified = true ∧ a.raised = s.hallTime ∧ a.state = .opened ∧ Raised s t a ∧ JudgingOnly s t)

/-- PASSAGE of an item that another lane's judgement already holds: without a greater outer tally, with another class, or with a
judgement in DONE, it is shadowed and the judgement stays as it was; otherwise the judgement moves to the passage's lane, with
its raw item, and the old owner's passage is shadowed; one that is VERIFYING leaves its live probe record ignored in the old owner's
lane, where it may have left the awaited list with its result (log entry 37, DEDUCED), and is verified anew under the new owner. An item in
the asking queue keeps its place, and a claim that waits carries the new owner lane; no other is offered. -/
def Obligations.PassagesAreShadowedOrTakeOver : Prop :=
  ∀ (s : State) (l : LaneId) (i : Item) (raw : Option Item) (cls : ItemClass) (rest : List TrackerMessage) (j : Judgement),
    (s.lane l).toJudge = .leaving i raw cls :: rest → s.findJudgement i = some j → j.owner ≠ l →
    let x := s.lane l
    let greater := ∃ mine theirs, x.passages.find? (fun p => p.item == i) = some mine
      ∧ (s.lane j.owner).passages.find? (fun p => p.item == i) = some theirs ∧ theirs.outerTally < mine.outerTally
    let takesOver := j.stage ≠ .done ∧ cls = j.cls ∧ greater
    (¬ takesOver → exec (.passage l) s = .next ((s.setLane l { x with
          toJudge := rest, verdicts := x.verdicts ++ [(i, Verdict.shadow)],
          counts := { x.counts with shadows := x.counts.shadows + 1 } }).drive))
      ∧ (takesOver → j.stage ≠ .verifying →
          ∃ t, exec (.passage l) s = .next t ∧ t.findJudgement i = some { j with owner := l, raw := raw }
            ∧ (t.lane j.owner).verdicts = (s.lane j.owner).verdicts ++ [(i, Verdict.shadow)]
            ∧ (t.lane j.owner).counts.shadows = (s.lane j.owner).counts.shadows + 1
            ∧ (t.lane l).toJudge = rest
            ∧ (∀ k m, s.port.judge = some (k, m) → t.port.judge =
                some (k, if j.stage = .asking ∧ k = i then l else m))
            ∧ (s.port.judge = none → t.port.judge = none) ∧ t.judge.asking = s.judge.asking ∧ t.judge.answer = s.judge.answer
            ∧ t.log = s.log ∧ JudgingOnly s t)
      ∧ (takesOver → j.stage = .verifying →
          let old := s.lane j.owner
          exec (.passage l) s = .next (({ s with
            lanes := (s.lanes.set l { x with toJudge := rest }).set j.owner { old with
              verdicts := old.verdicts ++ [(i, Verdict.shadow)], counts := { old.counts with shadows := old.counts.shadows + 1 },
              awaited := old.awaited.map fun r => if r.item = i then { r with live := false } else r
              results := old.results.map fun r => if r.item = i then { r with live := false } else r }
            judge := { s.judge with entries := s.judge.entries.map fun (n : Judgement) =>
              if n.item = i then { n with owner := l, raw := raw } else n } } : State).verify i).drive)

/-- JUDGE ANSWER, live: PASS ends the judgement in DONE with its verdict returned and counted; PENDING holds it in HELD_PENDING
with reason PENDING; ABSENT holds it in HELD_ABSENT with reason ABSENT until the grace end, which the first ABSENT sets to now
plus the owner lane's grace and a later one keeps; the item leaves the asking queue. A WRONG_LANE answer, an ABSENT answer whose
grace has run out, and GRACE END of a HELD_ABSENT judgement send it to verification. An answer that is not live is discarded. After an
answer, live or not, the claim of the item now at the front of the asking queue is offered, with its owner lane, if none waits. -/
def Obligations.AnswersAndGraceEndsMoveJudgements : Prop :=
  (∀ (s : State) (i : Item) (a : JudgeAnswer) (rest : List TableMessage) (j : Judgement),
     s.judge.inbox = .answer i a :: rest → s.judge.answer = some (i, true) → s.findJudgement i = some j →
     let ends := j.graceEnd.getD (s.hallTime + (s.lane j.owner).settings.grace)
     let becomes := fun (n : Judgement) => ∃ t, exec .judgeAnswer s = .next t ∧ t.findJudgement i = some n
       ∧ t.judge.asking = s.judge.asking.filter (fun k => decide (k ≠ i))
       ∧ t.port.judge = (if s.port.judge = none then
           (s.judge.asking.filter fun k => decide (k ≠ i)).head?.bind fun k => (s.findJudgement k).map fun n => (k, n.owner)
         else s.port.judge)
       ∧ t.judge.inbox = rest ∧ t.judge.answer = none ∧ t.log = s.log ∧ JudgingOnly s t
       ∧ (t.lane j.owner).verdicts = (s.lane j.owner).verdicts ++ (if n.stage = .done then [(i, .pass)] else [])
       ∧ (t.lane j.owner).counts.passes = (s.lane j.owner).counts.passes + (if n.stage = .done then 1 else 0)
     (a = .pass → becomes { j with stage := .done, verdict := some .pass })
       ∧ (a = .pending → becomes { j with stage := .heldPending, reason := some .pending })
       ∧ (a = .absent → s.hallTime < ends →
           becomes { j with stage := .heldAbsent, reason := some .absent, graceEnd := some ends }))
    ∧ (∀ (s : State) (i : Item) (j : Judgement), s.findJudgement i = some j →
         (j.stage = .heldAbsent → ∀ e, j.graceEnd = some e → e ≤ s.hallTime →
             exec (.graceEnd i) s = .next (s.verify i).drive)
           ∧ ∀ a rest, s.judge.inbox = .answer i a :: rest → s.judge.answer = some (i, true) →
               let taken : State := { s with judge := { s.judge with
                 inbox := rest, answer := none, asking := s.judge.asking.filter fun k => k != i } }
               let ends := j.graceEnd.getD (s.hallTime + (s.lane j.owner).settings.grace)
               let set := fun (f : Judgement → Judgement) =>
                 { taken with judge := { taken.judge with entries := s.judge.entries.map fun (n : Judgement) => if n.item == i then f n else n } }
               (a = .wrongLane → exec .judgeAnswer s =
                   .next (((set fun n => { n with reason := some .wrongLane }).verify i).offerJudge.drive))
                 ∧ (a = .absent → ends ≤ s.hallTime → exec .judgeAnswer s = .next
                     (((set fun n => { n with stage := .heldAbsent, reason := some .absent, graceEnd := some ends }).verify i).offerJudge.drive)))
    ∧ (∀ (s : State) (i : Item) (a : JudgeAnswer) (rest : List TableMessage),
        s.judge.inbox = .answer i a :: rest → s.judge.answer ≠ some (i, true) →
        exec .judgeAnswer s = .next ({ s with judge := { s.judge with inbox := rest, answer := none } }.offerJudge.drive))
    ∧ (∀ s : State,
        (s.port.judge ≠ none ∨ s.judge.answer ≠ none → s.offerJudge = s)
          ∧ (s.port.judge = none → s.judge.answer = none → s.offerJudge = { s with port := { s.port with
              judge := s.judge.asking.head?.bind (fun k => (s.findJudgement k).map fun n => (k, n.owner)) } }))

/-- Verification, of any judgement that goes there: the owner lane's verify setting off, or a refused probe, gives an unverified
ALARM whose class follows the reason; an accepted probe of the hall mark with the raw item, or else the item, joins the lane's
queue with a live awaited record, and the stage becomes VERIFYING. A probe is refused when the queue holds four. A holder aborts and
counts its rounds in flight for it, its broken cycle is not delivered, and a buffered half stays by the policy CONTINUE; with nothing
in flight the probe starts at once; a lane without the band asks, and the ask is urgent while its queue holds an entry. A raising makes
room in a full log, numbers the record and gives it its sounding end (Raised spells it out).
The model's own in this: that the probe waits, with nothing in flight, until the ABORT that a head is owed has been sent (log entry 7,
DEDUCED). -/
def Obligations.VerificationAsksForAProbeOrAlarms : Prop :=
  ∀ (s : State) (i : Item) (j : Judgement), s.findJudgement i = some j →
    let x := s.lane j.owner
    let accepts := x.settings.verify = true ∧ (x.state = .inService ∨ x.state = .single) ∧ x.probes.length < 4
    (accepts →
        (s.verify i).findJudgement i = some { j with stage := .verifying }
          ∧ ((s.verify i).lane j.owner).awaited = x.awaited ++ [{ item := i, live := true }]
          ∧ ((s.verify i).lane j.owner).probes =
              x.probes ++ [{ code := { mark := s.hall.hallMark, item := j.raw.getD i }, item := i }]
          ∧ (s.verify i).log = s.log
          ∧ (let y := (s.verify i).lane j.owner
             let aborted := fun (u v : HeadUnit) =>
               u.roundOut = true → v = { u with state := .ready, outstanding := none, abortOwed := true }
             (s.holds j.owner = true → (∃ f a b, x.flight = .rounds f a b) → (x.inner.roundOut = true ∨ x.outer.roundOut = true) →
                 aborted x.inner y.inner ∧ aborted x.outer y.outer ∧ y.flight = .nothing ∧ y.reports = x.reports
                   ∧ y.counts.abortedRounds =
                       x.counts.abortedRounds + (if x.inner.roundOut then 1 else 0) + (if x.outer.roundOut then 1 else 0)
                   ∧ y.buffer = (if x.settings.halfCycle = .continue then x.buffer else none))
               ∧ (s.holds j.owner = true → x.flight = .nothing → x.inner.abortOwed = false → x.outer.abortOwed = false →
                   ∃ f, y.flight = .probe f false)
               ∧ (s.holds j.owner = false → (s.arbiter (s.groupOf j.owner)).band ≠ .free → y.ask = true)))
      ∧ (¬ accepts → ∃ a, (s.verify i).log.records.getLast? = some a ∧ Raised s (s.verify i) a
          ∧ (s.verify i).findJudgement i = some { j with stage := .done, verdict := some .alarm, alarmNumber := some a.number }
          ∧ a.lane = j.owner ∧ a.item = i ∧ a.raw = j.raw ∧ a.unverified = true ∧ a.raised = s.hallTime ∧ a.state = .opened
          ∧ a.soundingEnd = s.hallTime + 1000 * x.settings.soundingTime
          ∧ (∀ r, j.reason = some r → a.cls =
              match r with
              | .absent => .unissued
              | .pending => .lapsed
              | .reference => .reference
              | .wrongLane => .wrongLane)
          ∧ ((s.verify i).lane j.owner).verdicts = x.verdicts ++ [(i, .alarm)]
          ∧ ((s.verify i).lane j.owner).counts.alarms = x.counts.alarms + 1
          ∧ (s.verify i).link.notices.alarm = true ∧ (s.verify i).link.noticeLine = true)

/-- CHANGE NOTICE, by stage and kind: a CLEARED notice sends a held or verifying judgement back to ASKING; a PENDING notice holds a
HELD_ABSENT or VERIFYING one in HELD_PENDING; either leaves a live probe record ignored, in the awaited list or in a result that it has
left with (log entry 37, DEDUCED); PENDING_GONE sends a HELD_PENDING one to verification; every other notice, and every notice for a
REFERENCE judgement or an item not in the list, has no effect. An item that is ASKING again joins the back of the asking queue, and with
no claim out that of the item at the front is offered. -/
def Obligations.ChangeNoticesMoveJudgements : Prop :=
  ∀ (s : State) (i : Item) (k : ChangeKind) (rest : List TableMessage), s.judge.inbox = .notice i k :: rest →
    let u : State := { s with judge := { s.judge with inbox := rest } }
    (s.findJudgement i = none → exec .changeNotice s = .next u.drive)
      ∧ ∀ j, s.findJudgement i = some j →
          let goes := fun (n : Judgement) => ∃ t, exec .changeNotice s = .next t ∧ t.findJudgement i = some n
            ∧ t.judge.inbox = rest ∧ JudgingOnly s t ∧ t.log = s.log
            ∧ (n.stage = .asking → t.judge.asking = s.judge.asking ++ [i]
                ∧ t.port.judge = if s.port.judge = none ∧ s.judge.answer = none then
                    (s.judge.asking ++ [i]).head?.bind fun k => (t.findJudgement k).map fun m => (k, m.owner)
                  else s.port.judge)
            ∧ (n.stage ≠ .asking → t.judge.asking = s.judge.asking ∧ t.port.judge = s.port.judge)
            ∧ t.judge.answer = s.judge.answer
            ∧ (j.stage = .verifying →
                (t.lane j.owner).awaited =
                    (s.lane j.owner).awaited.map (fun r => if r.item = i then { r with live := false } else r)
                  ∧ (t.lane j.owner).results =
                    (s.lane j.owner).results.map fun r => if r.item = i then { r with live := false } else r)
          (j.cls ≠ .reference → k = .cleared → (j.stage = .heldAbsent ∨ j.stage = .heldPending ∨ j.stage = .verifying) →
              goes { j with stage := .asking })
            ∧ (j.cls ≠ .reference → k = .pending → (j.stage = .heldAbsent ∨ j.stage = .verifying) →
                goes { j with stage := .heldPending, reason := some .pending })
            ∧ (j.cls ≠ .reference → k = .pendingGone → j.stage = .heldPending →
                exec .changeNotice s = .next (u.verify i).drive)
            ∧ ((j.cls = .reference ∨ j.stage = .asking ∨ j.stage = .done ∨ (k = .pendingGone ∧ j.stage ≠ .heldPending)
                  ∨ (k = .pending ∧ j.stage = .heldPending)) → exec .changeNotice s = .next u.drive)

/-- PROBE RESULT: it answers its awaited record, which left the front of the lane's list, with its mark, as the result was reported
(log entry 37, DEDUCED). A live SEEN or FAILED raises an alarm, unverified for FAILED, a live NOT_SEEN gives STRAY, each ending the
judgement in DONE with its verdict returned and counted; the result of an ignored record is discarded. The alarm's class follows the
reason, and a raising makes room in a full log, numbers the record and gives it its sounding end (Raised spells it out). -/
def Obligations.ProbeResultsEndVerification : Prop :=
  ∀ (s : State) (l : LaneId) (r : ProbeResult) (results : List ProbeResult), (s.lane l).results = r :: results →
    (r.live = false →
        exec (.probeResult l) s = .next ((s.setLane l { s.lane l with results := results }).drive))
      ∧ (r.live = true → ∀ j, s.findJudgement r.item = some j → j.owner = l →
          ∃ t, exec (.probeResult l) s = .next t ∧ (t.lane l).results = results ∧ (t.lane l).awaited = (s.lane l).awaited
            ∧ JudgingOnly s t
            ∧ (r.outcome = .notSeen →
                t.findJudgement r.item = some { j with stage := .done, verdict := some .stray } ∧ t.log = s.log
                  ∧ (t.lane l).verdicts = (s.lane l).verdicts ++ [(r.item, .stray)]
                  ∧ (t.lane l).counts.strays = (s.lane l).counts.strays + 1)
            ∧ (r.outcome ≠ .notSeen →
                ∃ n, t.log.records.getLast? = some n
                  ∧ t.findJudgement r.item = some { j with stage := .done, verdict := some .alarm, alarmNumber := some n.number }
                  ∧ n.lane = l ∧ n.item = r.item ∧ n.raw = j.raw ∧ n.unverified = decide (r.outcome = .failed)
                  ∧ n.raised = s.hallTime ∧ n.state = .opened ∧ Raised s t n
                  ∧ (∀ why, j.reason = some why → n.cls =
                      match why with
                      | .absent => .unissued
                      | .pending => .lapsed
                      | .reference => .reference
                      | .wrongLane => .wrongLane)
                  ∧ (t.lane l).verdicts = (s.lane l).verdicts ++ [(r.item, .alarm)]
                  ∧ (t.lane l).counts.alarms = (s.lane l).counts.alarms + 1 ∧ t.link.notices.alarm = true))

/-- PASSAGE REMOVAL REPORT: the entry of the item leaves the judgement list where the reporting lane owns it, and every other entry
stays. The item of a removed entry leaves the asking queue, its waiting claim is withdrawn, the answer of a taken one will be
discarded, and with no claim out that of the item now at the front is offered. -/
def Obligations.RemovalReportsDropTheLanesJudgement : Prop :=
  ∀ (s : State) (l : LaneId) (i : Item) (rest : List TrackerMessage), (s.lane l).toJudge = .removed i :: rest →
    ∃ t, exec (.passageRemovalReport l) s = .next t ∧ (t.lane l).toJudge = rest
      ∧ t.judge.entries = s.judge.entries.filter (fun j => !decide (j.item = i ∧ j.owner = l))
      ∧ t.judge.inbox = s.judge.inbox ∧ JudgingOnly s t ∧ t.log = s.log
      ∧ (let removed := ∃ j ∈ s.judge.entries, j.item = i ∧ j.owner = l
         let waiting := if removed then s.port.judge.filter fun c => decide (c.1 ≠ i) else s.port.judge
         t.judge.asking = (if removed then s.judge.asking.filter fun k => decide (k ≠ i) else s.judge.asking)
           ∧ t.judge.answer = s.judge.answer.map (fun a => (a.1, a.2 && !decide (removed ∧ a.1 = i)))
           ∧ t.port.judge = if waiting = none ∧ s.judge.answer = none then
               t.judge.asking.head?.bind fun k => (t.findJudgement k).map fun n => (k, n.owner)
             else waiting)
      ∧ (∀ m, m ≠ l → OutputsOnly (s.lane m) (t.lane m)) ∧ OutputsOnly { s.lane l with toJudge := rest } (t.lane l)

/-! ## Alarms and outputs -/

/-- ACK ALARM acknowledges the OPEN record of its number, closed now by source 0, or answers NO_ENTRY. READ ALARMS answers up to
8 records in log order, from the oldest or after the record it names, or NO_ENTRY where no record has that number, and changes
nothing. CLEAR LOG removes the records that are not OPEN, keeps the others in their order, and answers their count. -/
def Obligations.AlarmRecordsAreAcknowledgedReadAndCleared : Prop :=
  ∀ (s : State) (kind : Byte),
    (∀ n, s.link.work = .taken .link kind (.ackAlarm n) → s.alarmLogSound →
        ((∃ r ∈ s.log.records, r.number.toNat = n ∧ r.state = .opened) →
            exec .ackAlarm s = .next ({ s with log := { s.log with records := s.log.records.map fun (r : AlarmRecord) =>
              if r.number.toNat = n then { r with state := .acknowledged, closedAt := some s.hallTime, closedBy := some .link }
              else r } }.replyOn .link kind (codeReply .done)).drive)
          ∧ ((∀ r ∈ s.log.records, ¬ (r.number.toNat = n ∧ r.state = .opened)) →
              exec .ackAlarm s = .next (s.replyOn .link kind (codeReply .noEntry))))
      ∧ (∀ after, s.link.work = .taken .link kind (.readAlarms after) →
          let answers := fun (rs : List AlarmRecord) => exec .readAlarms s =
            .next (s.replyOn .link kind ([1, BitVec.ofNat 8 rs.length] ++ rs.flatMap AlarmRecord.bytes))
          (after = none → answers (s.log.records.take 8))
            ∧ ∀ n, after = some n →
                (∀ older r newer, s.log.records = older ++ r :: newer → r.number.toNat = n →
                    (∀ x ∈ older, x.number.toNat ≠ n) → answers (newer.take 8))
                  ∧ ((∀ r ∈ s.log.records, r.number.toNat ≠ n) →
                      exec .readAlarms s = .next (s.replyOn .link kind (codeReply .noEntry))))
      ∧ (s.link.work = .taken .link kind .clearLog →
          exec .clearLog s = .next ({ s with log := { s.log with
              records := s.log.records.filter fun (r : AlarmRecord) => decide (r.state = AlarmState.opened) } }.replyOn .link kind
            (countReply (s.log.records.countP fun (r : AlarmRecord) => decide (r.state ≠ AlarmState.opened)))))

/-- The outputs as a step drives them: a lane's sounder sounds while the lane is not DISABLED and an OPEN record of it is short of
its sounding end; its lamp shows the first of OFF, RED, AMBER and GREEN that applies. SOUNDING END drives the outputs of its
record's lane, and nothing else changes. -/
def Obligations.SoundersAndLampsFollowTheirLane : Prop :=
  ∀ s : State,
    (∃ lanes, s.drive = { s with lanes := lanes })
      ∧ (∀ l, OutputsOnly (s.lane l) (s.drive.lane l)
          ∧ ((s.drive.lane l).sounder = true ↔ (s.lane l).state ≠ .disabled
              ∧ ∃ r ∈ s.log.records, r.lane = l ∧ r.state = .opened ∧ s.hallTime < r.soundingEnd)
          ∧ (let state := (s.lane l).state
             let lit := ∃ j ∈ s.judge.entries, j.owner = l
               ∧ (j.stage = .heldAbsent ∨ j.stage = .heldPending ∨ j.stage = .verifying)
             let sounding := (s.drive.lane l).sounder = true
             ((s.drive.lane l).lamp = .off ↔ state = .disabled)
               ∧ ((s.drive.lane l).lamp = .red ↔ sounding)
               ∧ ((s.drive.lane l).lamp = .amber ↔ state ≠ .disabled ∧ ¬ sounding
                   ∧ (lit ∨ state = .starting ∨ state = .single ∨ state = .stopped))
               ∧ ((s.drive.lane l).lamp = .green ↔ state = .inService ∧ ¬ sounding ∧ ¬ lit)))
      ∧ (s.alarmLogSound → ∀ r ∈ s.log.records, r.state = .opened → r.soundingEnd ≤ s.hallTime →
          exec (.soundingEnd r.number) s = .next (s.setLane r.lane { s.lane r.lane with
            sounder := (s.drive.lane r.lane).sounder, lamp := (s.drive.lane r.lane).lamp }))

/-! ## The host's reads, the notices and the soft restart -/

/-- READ LANE answers the lane state, the count of passages and each passage in list order, 37 bytes, with the 12 of the judgement
that the lane owns for its item after it. READ STATUS answers the 639 bytes of its table after its code, read in one step (log entry 26). Neither changes anything but
the port and the model's own counter of free values: the alarm number bytes of a judgement without one are free (log entry 10). CLEAR
COUNTS sets every counter to 0 and clears every rollover flag, in one step (log entry 27); the service link port's own two are zeroed as the command is taken, and
stay as they are here. READ NOTICES answers the kinds present in list order, empties the set and releases the NOTICE line. An alarm
record in a reply is 35 bytes. Enumerated values are sent by their number. -/
def Obligations.HostReadsAndClears : Prop :=
  (∀ (s : State) (kind : Byte),
     let number := fun (n : Nat) => BitVec.ofNat 8 n
     let time := fun (t : Option Time) => beBytes 6 (t.getD 0xFFFFFFFFFFFF)
     (∀ lane, s.link.work = .taken .link kind (.readLane lane) →
         (7 < lane → exec .readLane s = .next (s.replyOn .link kind (codeReply .badValue)))
           ∧ ∀ l : LaneId, l.val = lane →
               let ps := (s.lane l).passages
               let owned := fun (p : Passage) => s.judge.entries.find? fun j => j.item == p.item && j.owner == l
               let passage := fun (p : Passage) => beBytes 5 p.item ++ beBytes 5 (p.raw.getD 0)
                 ++ [number p.window.val, p.cls.number] ++ time (some p.firstSeen)
                 ++ [p.firstHead.number, number p.innerTally, number p.outerTally] ++ time p.innerConfirmed ++ time p.outerConfirmed
                 ++ [number p.missCount, p.stage.number, (p.verdict.map Verdict.number).getD 0,
                     if (owned p).isSome then 1 else 0]
               let judgement := fun (j : Judgement) (free : BitVec 16) => [j.stage.number, (j.reason.map Reason.number).getD 0]
                 ++ time j.graceEnd ++ [(j.verdict.map Verdict.number).getD 0, if j.alarmNumber.isSome then 1 else 0]
                 ++ beBytes 2 (j.alarmNumber.getD free).toNat
               exec .readLane s = .next ({ s with freeReads := s.freeReads + ps.length }.replyOn .link kind
                 ([1, (s.lane l).state.number, number ps.length] ++ (ps.zipIdx s.freeReads).flatMap fun (x : Passage × Nat) =>
                   passage x.1 ++ ((owned x.1).map fun j => judgement j (Config.freeAlarmNumber x.2)).getD [])))
       ∧ (s.link.work = .taken .link kind .readStatus →
           let lanes : List LaneId := [0, 1, 2, 3, 4, 5, 6, 7]
           let heads := lanes.flatMap fun l => [(s.lane l).inner, (s.lane l).outer]
           let count := fun (n : BitVec 32) => beBytes 4 n.toNat
           let entries := fun (st : Stage) => s.table.entries.countP fun e => decide (e.stage = st)
           let records := fun (st : AlarmState) => s.log.records.countP fun r => decide (r.state = st)
           let body := lanes.map (fun l => (s.lane l).state.number) ++ heads.map (fun u => u.state.number)
             ++ beBytes 2 (entries .pending) ++ beBytes 2 (entries .cleared) ++ beBytes 2 (entries .departed)
             ++ s.table.pendingCounts.toList.map number
             ++ [number (records .opened), number (records .acknowledged), number (records .settled)] ++ beBytes 2 s.log.counter.toNat
             ++ count s.table.lapsed ++ count s.table.expired ++ count s.table.evicted
             ++ heads.flatMap (fun u => beBytes 2 u.retries.toNat ++ count u.stale ++ count u.badChecks)
             ++ lanes.flatMap (fun l =>
                  let c := (s.lane l).counts
                  [c.cycles, c.abortedRounds, c.lossyRounds, c.entered, c.foreignCodes, c.crowdDrops, c.passes, c.exemptPasses, c.alarms,
                    c.strays, c.shadows, c.dropped].flatMap count)
             ++ count s.log.overwrites ++ count s.desk.abandoned ++ count s.link.badFrames ++ count s.link.lostBytes
             ++ heads.map fun u => if u.rollover then 1 else 0
           exec .readStatus s = .next (s.replyOn .link kind (1 :: body)) ∧ body.length = 639)
       ∧ (s.link.work = .taken .link kind .clearCounts →
           ∃ u : State, exec .clearCounts s = .next (u.replyOn .link kind (codeReply .done))
             ∧ u = { s with
                 lanes := u.lanes
                 table := { s.table with lapsed := 0, expired := 0, evicted := 0 }
                 log := { s.log with overwrites := 0 }
                 desk := { s.desk with abandoned := 0 } }
             ∧ ∀ l, u.lane l =
                 { s.lane l with
                     inner := { (s.lane l).inner with retries := 0, rollover := false, stale := 0, badChecks := 0 }
                     outer := { (s.lane l).outer with retries := 0, rollover := false, stale := 0, badChecks := 0 }
                     counts := { cycles := 0, abortedRounds := 0, lossyRounds := 0, entered := 0, foreignCodes := 0, crowdDrops := 0,
                                 passes := 0, exemptPasses := 0, alarms := 0, strays := 0, shadows := 0, dropped := 0 } })
       ∧ (s.link.work = .taken .link kind .readNotices →
           let kinds : List Byte := (if s.link.notices.alarm then [1] else []) ++ (if s.link.notices.fault then [2] else [])
             ++ (if s.link.notices.logOverwrite then [3] else []) ++ (if s.link.notices.crowd then [4] else [])
             ++ (if s.link.notices.tableFull then [5] else [])
           exec .readNotices s = .next ({ s with link := { s.link with notices := NoticeSet.empty, noticeLine := false } }.replyOn
             .link kind ([1, number kinds.length] ++ kinds)))
       ∧ ∀ r : AlarmRecord, r.bytes = beBytes 2 r.number.toNat ++ [number r.lane.val] ++ beBytes 5 r.item ++ beBytes 5 (r.raw.getD 0)
           ++ [r.cls.number, if r.unverified then 1 else 0] ++ time (some r.raised) ++ time (some r.soundingEnd) ++ [r.state.number]
           ++ time r.closedAt ++ [(r.closedBy.map fun src => number src.number).getD 255])
    ∧ [LaneState.disabled, .starting, .inService, .single, .stopped].map LaneState.number = [1, 2, 3, 4, 5]
    ∧ [HeadState.unknown, .ready, .busy, .faulted].map HeadState.number = [1, 2, 3, 4]
    ∧ [ItemClass.lending, .reference, .restricted, .exempt, .staff].map ItemClass.number = [1, 2, 3, 4, 5]
    ∧ [PassageStage.tracking, .inner, .outer, .sent, .settled, .entered].map PassageStage.number = [1, 2, 3, 4, 5, 6]
    ∧ [FirstHead.inner, .outer, .both].map FirstHead.number = [1, 2, 3]
    ∧ [Verdict.pass, .exempt, .alarm, .stray, .shadow].map Verdict.number = [1, 2, 3, 4, 5]
    ∧ [JudgementStage.asking, .heldAbsent, .heldPending, .verifying, .done].map JudgementStage.number = [1, 2, 3, 4, 5]
    ∧ [Reason.absent, .pending, .reference, .wrongLane].map Reason.number = [1, 2, 3, 4]
    ∧ [AlarmClass.unissued, .lapsed, .reference, .wrongLane].map AlarmClass.number = [1, 2, 3, 4]
    ∧ [AlarmState.opened, .acknowledged, .settled].map AlarmState.number = [1, 2, 3]

/-- RESTART: every standing ends; every lane that is not DISABLED is STARTING with IDENT out to both heads, nothing in flight, no
passage and nothing on its way; the judgement list, the asking queue and the awaited probes are empty; every sounder is silent, the
later sounding ends of OPEN records becoming now and nothing else of a record; the desk bus port in a frame leaves what it was at for
IGNORING, its clock and data line released, its address and abandoned counter kept; the host is answered DONE, all in one step (log entries
18 and 28). Hall time, settings, windows, rights, table, notices and the counters of heads and ports stay. Unless a desk's taken request
restarts a lane first (log entry 4): a lane that is DISABLED stays so; a held band is released, to GUARD until a guard gap from now or
with a gap of 0 to FREE, every ask being withdrawn, and any other arbiter stays as it was; a lane's dropped counter rises by its exits
without a verdict, those on their way included (log entry 6), and its aborted rounds by the rounds out, whose ABORT goes out just
before IDENT (log entries 7 and 8). The desk port's overlong mark, count supplied and acknowledge bit are log entries 15 and 39's. A desk claim that waits at the table port stays
there as an orphan. When it is taken it has its whole effect on the table, as a claim of a request in work has, but no result is
recorded, no reply is formed and a batch series makes no further claim; a claim of a later desk frame then follows it (log entry 19). -/
def Obligations.RestartRestartsEveryBlock : Prop :=
  (∀ (s : State) (kind : Byte), s.link.work = .taken .link kind .restart →
    ∃ t, exec .restart s = .next t
      ∧ (∀ d : DeskId, t.standing[d] = none)
      ∧ (∀ l, (s.lane l).state ≠ .disabled →
          (t.lane l).state = .starting ∧ (t.lane l).flight = .nothing ∧ (t.lane l).ask = false ∧ (t.lane l).buffer = none
            ∧ (t.lane l).probes = [] ∧ (t.lane l).passages = [] ∧ (t.lane l).reports = [] ∧ (t.lane l).results = []
            ∧ (t.lane l).verdicts = [] ∧ (t.lane l).toJudge = []
            ∧ ∀ h, ((t.lane l).head h).state = .unknown ∧ ((t.lane l).head h).failures = 0
                ∧ ((t.lane l).head h).outstanding = some { command := .ident, sentAt := s.hallTime })
      ∧ (∀ l, (t.lane l).settings = (s.lane l).settings ∧ (t.lane l).awaited = [] ∧ (t.lane l).sounder = false)
      ∧ ((∀ src k r, s.desk.work ≠ .taken src k r) →
          (∀ l, (s.lane l).state = .disabled → (t.lane l).state = .disabled)
            ∧ (∀ l h, let u := (s.lane l).head h
                      let v := (t.lane l).head h
                      ((s.lane l).state ≠ .disabled → v.abortOwed = false ∧ v.sent = u.sent
                            ++ (if u.abortOwed || u.roundOut || u.probeOut then [.abort u.seq] else []) ++ [.ident])
                        ∧ v.seq = u.seq ∧ v.retries = u.retries ∧ v.rollover = u.rollover ∧ v.stale = u.stale ∧ v.badChecks = u.badChecks)
            ∧ (s.bandsSound → ∀ g,
                (∀ l, (s.arbiter g).band = .held l → t.arbiter g =
                    { s.arbiter g with band := if s.hall.guardGap = 0 then .free else .guarding,
                                       guardEnd := s.hallTime + s.hall.guardGap })
                  ∧ ((∀ l, (s.arbiter g).band ≠ .held l) → t.arbiter g = s.arbiter g))
            ∧ (∀ l, let x := s.lane l
                    let undecided := s.judge.entries.countP fun j => decide (j.owner = l ∧ j.stage ≠ .done)
                    let leaving := x.toJudge.countP fun m => match m with
                      | .leaving _ _ _ => true
                      | .removed _ => false
                    let aborted := (if x.inner.roundOut then 1 else 0) + (if x.outer.roundOut then 1 else 0)
                    (t.lane l).counts = if x.state = .disabled then x.counts else
                      { x.counts with dropped := x.counts.dropped + BitVec.ofNat 32 (undecided + leaving),
                                      abortedRounds := x.counts.abortedRounds + BitVec.ofNat 32 aborted })
            ∧ t.log = { s.log with records := s.log.records.map fun r =>
                if r.state = .opened ∧ s.hallTime < r.soundingEnd then { r with soundingEnd := s.hallTime } else r }
            ∧ (s.desk.state = .idle → t.desk = s.desk))
      ∧ (s.desk.state ≠ .idle → t.desk =
          { s.desk with state := .ignoring, buffer := [], overlong := false, work := .idle, reply := [], supplied := 0, acked := false,
                        dataOut := 0xFF, clockHeld := false })
      ∧ t.desk.abandoned = s.desk.abandoned ∧ t.desk.address = s.desk.address
      ∧ t.link.buffer = s.link.buffer ∧ t.link.badFrames = s.link.badFrames ∧ t.link.lostBytes = s.link.lostBytes
      ∧ t.port.lastServed = s.port.lastServed ∧ t.port.link = s.port.link ∧ t.port.expiry = s.port.expiry
      ∧ t.judge.entries = [] ∧ t.judge.asking = [] ∧ t.port.judge = none
      ∧ (∀ i live, t.judge.answer = some (i, live) → live = false) ∧ t.judge.inbox = s.judge.inbox
      ∧ t.port.desk = s.port.desk ∧ t.port.deskOrphan = s.port.desk.isSome ∧ t.port.deskDeferred = none
      ∧ t.log.records.map AlarmRecord.number = s.log.records.map AlarmRecord.number
      ∧ (∀ r ∈ t.log.records, r.state = .opened → r.soundingEnd ≤ s.hallTime)
      ∧ t.link.state = .sending ∧ t.link.reply = linkFrame kind [1]
      ∧ t.link.notices = s.link.notices ∧ t.table = s.table ∧ t.hallTime = s.hallTime ∧ t.hall = s.hall
      ∧ t.windows = s.windows ∧ t.rights = s.rights)
    ∧ (∀ (s : State) (k : ItemKind) (c : Instr) (i : Item) (src : Source) (o : ClaimOptions),
         (c, k) ∈ [(Instr.holdClaim, ItemKind.hold), (.issueClaim, .issue), (.confirmClaim, .confirm), (.cancelClaim, .cancel),
           (.dischargeClaim, .discharge), (.queryClaim, .query)] →
         s.port.nextRequest = some (.desk, .item k i src o) →
         let t := ((s.takeFrom .desk).itemClaim k i src o).1
         let code := ((s.takeFrom .desk).itemClaim k i src o).2
         let driven := fun (u : State) => if k = .issue ∨ k = .confirm then u.drive else u
         (s.port.deskOrphan = true → exec c s = .next (driven t) ∧ (driven t).desk = s.desk
             ∧ (driven t).link.reply = s.link.reply ∧ (driven t).port.desk = s.port.deskDeferred
             ∧ (driven t).port.deskOrphan = false ∧ (driven t).port.deskDeferred = none)
           ∧ (s.port.deskOrphan = false → ∀ options rest rs, s.desk.work = .items k src options rest rs →
               exec c s = .next (driven (t.workItems .desk k src options rest
                 (rs ++ [{ code := code, atGate := s.atGate i, alarmOpen := t.alarmOpen i,
                           entry := if k = .query then s.findEntry i else none }])))))
    ∧ (∀ (s : State) (k : BatchKind) (c : Instr) (requester selected : Source) (batch : Nat) (cursor : Item),
         (c, k) ∈ [(Instr.confirmBatchClaim, BatchKind.confirm), (.cancelBatchClaim, .cancel)] →
         s.port.nextRequest = some (.desk, .batch k requester selected batch cursor) → s.port.deskOrphan = true →
         let u := s.takeFrom .desk
         u.desk = s.desk ∧ u.table = s.table ∧ u.port.desk = s.port.deskDeferred ∧ u.port.deskOrphan = false
           ∧ (s.batchEntry selected batch cursor = none → exec c s = .next u)
           ∧ ∀ e, s.batchEntry selected batch cursor = some e →
               exec c s = .next (u.batchClaim k requester e).1 ∧ (u.batchClaim k requester e).1.desk = s.desk)

/-! ## The two ports' lines -/

/-- A byte on the service link: lost when the receive buffer is full; kept while the port works or sends; else taken: 0x7E begins a
frame, any other byte outside one is dropped, and a frame is bad at once by its length, or by its check value, and is answered
BAD_FRAME, or is taken as a command, which zeroes the port's two counters where it is CLEAR COUNTS. Fifty milliseconds of silence cut
a frame short, as a bad frame; that silence runs from the last byte taken is the model's choice (log entry 14), as is that the last
byte of a reply leaves the line as one step, REPLY SENT, at a time the model does not tie to the rate (log entry 16), and what
the frame holds once no frame is being received (log entry 40). REPLY SENT goes
back to HUNTING, and the waiting bytes are worked as though each had just arrived. A command is refused whole by an unknown kind or a
wrong length; else its fields stand in the order of the bodies. -/
def Obligations.ServiceFramesAreReceivedOrRefused : Prop :=
  (∀ (s : State) (b : Byte),
     let p := s.link
     let frame := p.frame ++ [b]
     let length := beNat (frame.take 2)
     let bad := fun (q : LinkPort) =>
       { q with badFrames := p.badFrames + 1, state := .sending, work := .idle, sent := 0, reply := linkFrame 0 [18] }
     let becomes := fun (q : LinkPort) => exec (.serviceByte b) s = .next { s with link := q }
     (1024 ≤ p.buffer.length → becomes { p with lostBytes := p.lostBytes + 1 })
       ∧ (p.buffer.length < 1024 → (p.state = .working ∨ p.state = .sending) → becomes { p with buffer := p.buffer ++ [b] })
       ∧ (p.buffer = [] → p.state = .hunting → b = 0x7E →
           becomes { p with state := .receiving, frame := [], quietSince := s.hallTime })
       ∧ (p.buffer = [] → p.state = .hunting → b ≠ 0x7E → becomes p)
       ∧ (p.buffer = [] → p.state = .receiving →
           let q := { p with frame := frame, quietSince := s.hallTime }
           (frame.length < 2 → becomes q)
             ∧ (2 ≤ frame.length → (length = 0 ∨ 226 < length) → becomes (bad q))
             ∧ (2 ≤ frame.length → length ≠ 0 → length ≤ 226 →
                 (frame.length < length + 4 → becomes q)
                   ∧ (length + 4 ≤ frame.length → frame.drop (length + 2) ≠ crcBytes (frame.take (length + 2)) → becomes (bad q))
                   ∧ (length + 4 ≤ frame.length → frame.drop (length + 2) = crcBytes (frame.take (length + 2)) →
                       ∀ kind body, (frame.take (length + 2)).drop 2 = kind :: body →
                         let r := parseLinkRequest kind body
                         becomes { q with state := .working, work := .taken .link kind r,
                                          badFrames := if r = .clearCounts then 0 else p.badFrames,
                                          lostBytes := if r = .clearCounts then 0 else p.lostBytes })))
       ∧ (p.state = .receiving → p.buffer = [] → p.quietSince + 50 ≤ s.hallTime →
           exec .frameTimeout s = .next { s with link := bad p })
       ∧ (p.state = .sending → p.buffer.length ≤ 1024 →
           let hunts := { s with link := { p with state := .hunting, frame := [], buffer := [], sent := p.reply.length } }
           exec .replySent s = p.buffer.foldl (fun outcome x => match outcome with
             | .next t => exec (.serviceByte x) t
             | .fault why => .fault why
             | .refused why => .refused why) (.next hunts)))
    ∧ (∀ (kind : Byte) (body : List Byte),
         let counted := fun (before size limit : Nat) => ∃ n, body[before]? = some n ∧ 1 ≤ n.toNat ∧ n.toNat ≤ limit
           ∧ body.length = before + 1 + size * n.toNat
         parseLinkRequest kind body ≠ .bad ↔
           kind ∈ [1, 2] ∧ counted 4 5 8 ∨ kind = 3 ∧ counted 1 5 8 ∨ kind ∈ [4, 7, 8] ∧ counted 0 5 8 ∨ kind = 9 ∧ counted 0 7 32
             ∨ kind ∈ [11, 23, 24, 25, 27, 28, 29] ∧ body.length = 0 ∨ kind ∈ [14, 15, 20, 21, 22] ∧ body.length = 1
             ∨ kind ∈ [25, 26] ∧ body.length = 2 ∨ kind ∈ [5, 6, 18] ∧ body.length = 3 ∨ kind = 10 ∧ body.length = 5
             ∨ kind = 16 ∧ body.length = 10 ∨ kind = 17 ∧ body.length = 15 ∨ kind = 19 ∧ body.length = 16)
    ∧ (∀ (a b c d e f g h i j k l m n o p : Byte),
         parseLinkRequest 5 [a, b, c] = .batch .confirm (beNat [a, b]) (some c.toNat)
           ∧ parseLinkRequest 6 [a, b, c] = .batch .cancel (beNat [a, b]) (some c.toNat)
           ∧ parseLinkRequest 10 [a, b, c, d, e] = .walk (beNat [a, b, c, d, e]) ∧ parseLinkRequest 11 [] = .clearTable
           ∧ parseLinkRequest 16 [a, b, c, d, e, f, g, h, i, j] =
               .setHall { hallMark := beNat [a, b], defaultClass := c.toNat, allowance := d.toNat, leeway := e.toNat,
                          pendingLimit := f.toNat, standingTime := g.toNat, lateWindow := beNat [h, i], guardGap := j.toNat }
           ∧ parseLinkRequest 17 [a, b, c, d, e, f, g, h, i, j, k, l, m, n, o] =
               .setWindow { window := a.toNat, enabled := b.toNat, base := beNat [c, d, e, f, g], k := h.toNat, cls := i.toNat,
                            renumber := j.toNat, target := beNat [k, l, m, n, o] }
           ∧ parseLinkRequest 18 [a, b, c] = .setRights a.toNat b.toNat c.toNat
           ∧ parseLinkRequest 19 [a, b, c, d, e, f, g, h, i, j, k, l, m, n, o, p] =
               .setLane { lane := a.toNat, bandGroup := b.toNat, sweepMode := c.toNat, halfCycle := d.toNat, roundTime := e.toNat,
                          roundTimeout := f.toNat, retryLimit := g.toNat, tenure := h.toNat, confirmationCount := i.toNat,
                          missLimit := j.toNat, grace := beNat [k, l], verify := m.toNat, outerOnly := n.toNat,
                          faultPolicy := o.toNat, soundingTime := p.toNat }
           ∧ parseLinkRequest 20 [a] = .enableLane a.toNat ∧ parseLinkRequest 21 [a] = .disableLane a.toNat
           ∧ parseLinkRequest 22 [a] = .readLane a.toNat ∧ parseLinkRequest 23 [] = .readStatus
           ∧ parseLinkRequest 24 [] = .clearCounts ∧ parseLinkRequest 25 [] = .readAlarms none
           ∧ parseLinkRequest 25 [a, b] = .readAlarms (some (beNat [a, b])) ∧ parseLinkRequest 26 [a, b] = .ackAlarm (beNat [a, b])
           ∧ parseLinkRequest 27 [] = .clearLog ∧ parseLinkRequest 28 [] = .readNotices ∧ parseLinkRequest 29 [] = .restart)
    ∧ (∀ items : List RawItem, 1 ≤ items.length → items.length ≤ 32 → (∀ x ∈ items, x.item < 256 ^ 5 ∧ x.allowance < 256) →
         parseLinkRequest 9 (BitVec.ofNat 8 items.length :: items.flatMap fun x =>
             beBytes 5 x.item ++ [BitVec.ofNat 8 x.allowance, x.lanes]) =
           .items .load { batch := 0, lanes := 0, allowance := 0 } items)

/-- The desk bus port: an address byte begins a frame, is not followed, or takes the request that has been written, which holds the
clock and empties the buffer; one that does not take it abandons it, as a stop condition does. A read with no request, or with an empty
buffer, has its reply BAD_REQUEST formed at once, and takes and counts nothing; a source with no kind is refused whole. The first
written byte is the source, and up to 46 more follow it; a longer frame is a bad request. A reply byte that the desk asks for is the
next of the reply, or 0 after the last; a declined one releases the data line. No other block changes. A request is refused whole by an
unknown kind or a wrong length; else its fields stand in the order of the bodies, on both ports alike.
The acknowledge bit, the byte on the data line and the count supplied are the model's choice (log entry 15); that a taken request is
worked by its own row, and that the hold of a reply already formed ends by BAD_REQUEST or as the bus next acts, is log entry 4; where an overlong mark is cleared outside RECEIVING is the model's
choice (log entry 39), as is that in IDLE any address byte begins a frame, a repeated start's too (log entry 41). A frame that ends, or is not followed, leaves no buffer, request or reply in the port and its data line
released. -/
def Obligations.DeskFramesAreReceivedAndReplied : Prop :=
  (∀ s : State,
     let p := s.desk
     let is := fun (c : Instr) (q : DeskPort → Prop) => ∃ d, exec c s = .next { s with desk := d } ∧ q d
     let holds := fun (d : DeskPort) => d.state = .working ∧ d.clockHeld = true ∧ d.acked = true ∧ d.buffer = []
     let received : DeskPort := { p with state := .receiving, buffer := [], overlong := false, work := .idle, reply := [],
                                         supplied := 0, acked := true, dataOut := 0xFF }
     let ignoring : DeskPort := { p with state := .ignoring, buffer := [], overlong := false, work := .idle, reply := [],
                                         supplied := 0, acked := false, dataOut := 0xFF, clockHeld := false }
     let stopped : DeskPort := { p with state := .idle, buffer := [], overlong := false, work := .idle, reply := [],
                                        supplied := 0, acked := false, dataOut := 0xFF }
     let kept := fun (d : DeskPort) => d.address = p.address ∧ d.abandoned = p.abandoned ∧ d.supplied = 0 ∧ d.dataOut = 0xFF
     let noRequest := fun (d : DeskPort) =>
       holds d ∧ kept d ∧ d.work = .idle ∧ d.reply = [17]
     let fresh := fun (address : BitVec 7) (direction : Direction) (d : DeskPort) =>
       (address = p.address → direction = .write → d = received)
         ∧ (address = p.address → direction = .read → noRequest d ∧ d.overlong = false)
         ∧ (address ≠ p.address → d = ignoring)
     (∀ address direction,
         (p.state = .idle ∨ p.state = .replying ∨ p.state = .spent →
             is (.deskAddressByte address direction) (fresh address direction))
           ∧ (p.state = .ignoring → is (.deskAddressByte address direction) fun d => d = { p with acked := false })
           ∧ (p.state = .receiving → address = p.address → direction = .read →
               (p.buffer = [] → is (.deskAddressByte address direction) noRequest)
                 ∧ ∀ src : DeskId,
                     (p.buffer = [BitVec.ofNat 8 (src.val + 1)] → is (.deskAddressByte address direction) fun d =>
                         holds d ∧ kept d ∧ d.reply = [] ∧ d.work = .taken (.desk src) 0 .bad)
                       ∧ ∀ (kind : Byte) (body : List Byte), p.buffer = BitVec.ofNat 8 (src.val + 1) :: kind :: body →
                           is (.deskAddressByte address direction) fun d => holds d ∧ kept d ∧ d.reply = []
                             ∧ d.work = .taken (.desk src) kind (if p.overlong then .bad else parseDeskRequest kind body))
           ∧ (p.state = .receiving → ¬ (address = p.address ∧ direction = .read) →
               is (.deskRepeatedStartWrite address direction) fun d =>
                 (address = p.address → d = { received with abandoned := p.abandoned + 1 })
                   ∧ (address ≠ p.address → d = { ignoring with abandoned := p.abandoned + 1 })))
       ∧ (p.state = .working → p.work = .idle → p.reply ≠ [] →
           let formed := { p with state := .replying, supplied := 1, dataOut := p.reply.headD 0, clockHeld := false }
           is (.badRequest .desk) (fun d => d = formed)
             ∧ ∀ c ∈ [Instr.deskStopCondition, .deskReplyByte, .deskReplyDeclined, .deskAddressByte p.address .write],
                 exec c s = exec c { s with desk := formed })
       ∧ (∀ b, p.state = .receiving →
           (p.buffer = [] → 1 ≤ b.toNat → b.toNat ≤ 15 →
               is (.deskWriteByte b) fun d => d = { p with buffer := [b], acked := true })
             ∧ (p.buffer = [] → ¬ (1 ≤ b.toNat ∧ b.toNat ≤ 15) →
                 is (.deskWriteByte b) fun d => d = ignoring)
             ∧ (p.buffer ≠ [] → p.buffer.length < 47 →
                 is (.deskWriteByte b) fun d => d = { p with buffer := p.buffer ++ [b], acked := true })
             ∧ (47 ≤ p.buffer.length → is (.deskWriteByte b) fun d => d = { p with overlong := true, acked := false }))
       ∧ (p.state = .receiving → is .deskStopCondition fun d => d = { stopped with abandoned := p.abandoned + 1 })
       ∧ (p.state = .replying ∨ p.state = .spent ∨ p.state = .ignoring →
           is .deskStopCondition fun d => d = stopped)
       ∧ (p.state = .replying →
           is .deskReplyByte fun d => d = { p with
             dataOut := p.reply.getD p.supplied 0, supplied := min p.reply.length (p.supplied + 1) })
       ∧ (p.state = .replying → is .deskReplyDeclined fun d => d = { p with state := .spent, dataOut := 0xFF }))
    ∧ (∀ (kind : Byte) (body : List Byte),
         let counted := fun (before : Nat) => ∃ n, body[before]? = some n ∧ 1 ≤ n.toNat ∧ n.toNat ≤ 8
           ∧ body.length = before + 1 + 5 * n.toNat
         parseDeskRequest kind body ≠ .bad ↔
           kind ∈ [1, 2] ∧ counted 4 ∨ kind = 3 ∧ counted 1 ∨ kind ∈ [4, 7, 8] ∧ counted 0 ∨ kind = 13 ∧ body.length = 0
             ∨ kind ∈ [14, 15] ∧ body.length = 1 ∨ kind ∈ [5, 6] ∧ body.length = 2 ∨ kind = 12 ∧ body.length = 5)
    ∧ (∀ (a b c d e : Byte),
         parseDeskRequest 5 [a, b] = .batch .confirm (beNat [a, b]) none ∧ parseDeskRequest 6 [a, b] = .batch .cancel (beNat [a, b]) none
           ∧ parseDeskRequest 12 [a, b, c, d, e] = .standing (beNat [a, b, c, d, e]) ∧ parseDeskRequest 13 [] = .endStanding)
    ∧ (∀ parse ∈ [parseDeskRequest, parseLinkRequest], ∀ (a : Byte) (lanes : LaneSet) (batch : Nat) (items : List Item),
         parse 14 [a] = .ackLane a.toNat ∧ parse 15 [a] = .restartLane a.toNat
           ∧ (batch < 65536 → 1 ≤ items.length → items.length ≤ 8 → (∀ i ∈ items, i < 256 ^ 5) →
               let bytes := BitVec.ofNat 8 items.length :: items.flatMap (beBytes 5)
               let request := fun (k : ItemKind) (o : RawOptions) =>
                 Request.items k o (items.map fun i => { item := i, allowance := 0, lanes := 0 })
               let none := { batch := 0, lanes := 0, allowance := 0 }
               let options := { batch := batch, lanes := lanes, allowance := a.toNat }
               parse 1 (beBytes 2 batch ++ [lanes, a] ++ bytes) = request .hold options
                 ∧ parse 2 (beBytes 2 batch ++ [lanes, a] ++ bytes) = request .issue options
                 ∧ parse 3 (a :: bytes) = request .confirm { none with allowance := a.toNat }
                 ∧ parse 4 bytes = request .cancel none ∧ parse 7 bytes = request .discharge none
                 ∧ parse 8 bytes = request .query none))

/-! ## Invariants -/

/-- Every step keeps the clearance table sound: its entries rise strictly by item, each pending count is the number of PENDING
entries of its source, and the table holds no more than 4096 entries, 256 PENDING and 32 PENDING of one source. -/
def Obligations.StepsKeepTheTableSound : Prop :=
  ∀ s t : State, s.tableOrdered ∧ s.pendingCountsExact ∧ s.tableWithinLimits → step s = .next t →
    t.tableOrdered ∧ t.pendingCountsExact ∧ t.tableWithinLimits

/-- Every step keeps each passage list at 24 passages of distinct items, the alarm log at 64 records of distinct numbers, and the
judgement list at one entry for each item. -/
def Obligations.StepsKeepTheListsSound : Prop :=
  ∀ s t : State, step s = .next t →
    (s.passageListsSound → t.passageListsSound) ∧ (s.alarmLogSound → t.alarmLogSound)
      ∧ (s.judgementsDistinct → t.judgementsDistinct)

/-- Every step keeps the bands sound: a lane with a round or a probe in flight holds the band of its group, a holder is a member of
the group and in service, and a lane that asks is in service; so no two lanes of a group have anything in flight together. -/
def Obligations.StepsKeepTheBandsSound : Prop :=
  ∀ s : State, s.bandsSound → s.bandExclusive ∧ ∀ t, step s = .next t → t.bandsSound

/-- Every step keeps hall time in 48 bits, each probe queue at 4 entries, each awaited probe list the items of its lane's probe
queue in their order and at 4 records (a record leaves it with its queue entry, log entry 37, DEDUCED), the receive and request buffers within
their sizes, and the NOTICE line asserted exactly while the notice set holds a kind. -/
def Obligations.StepsKeepTheBounds : Prop :=
  ∀ s t : State, step s = .next t →
    (s.hallTimeFits → t.hallTimeFits) ∧ (s.probeQueuesBounded → t.probeQueuesBounded)
      ∧ (s.awaitedProbesMatched → t.awaitedProbesMatched)
      ∧ (s.buffersBounded → t.buffersBounded) ∧ (s.noticeLineFollowsSet → t.noticeLineFollowsSet)

/-- The reset state meets every invariant. -/
def Obligations.ResetMeetsTheInvariants : Prop :=
  State.reset.tableOrdered ∧ State.reset.pendingCountsExact ∧ State.reset.tableWithinLimits
    ∧ State.reset.passageListsSound ∧ State.reset.alarmLogSound ∧ State.reset.judgementsDistinct ∧ State.reset.bandsSound
    ∧ State.reset.hallTimeFits ∧ State.reset.probeQueuesBounded ∧ State.reset.awaitedProbesMatched ∧ State.reset.buffersBounded
    ∧ State.reset.noticeLineFollowsSet
end

