-- ==== Sys2Proof/Laws/State.lean ====
section
/-! SUPPORT. What each update of the state leaves in each field: one lemma for each update and field, true by `rfl`. -/

namespace Sys2Proof.Machine.State

/-! ## setLane -/

@[simp] theorem setLane_hallTime (s : State) (l : LaneId) (x : Lane) : (s.setLane l x).hallTime = s.hallTime := rfl
@[simp] theorem setLane_hall (s : State) (l : LaneId) (x : Lane) : (s.setLane l x).hall = s.hall := rfl
@[simp] theorem setLane_windows (s : State) (l : LaneId) (x : Lane) : (s.setLane l x).windows = s.windows := rfl
@[simp] theorem setLane_rights (s : State) (l : LaneId) (x : Lane) : (s.setLane l x).rights = s.rights := rfl
@[simp] theorem setLane_standing (s : State) (l : LaneId) (x : Lane) : (s.setLane l x).standing = s.standing := rfl
@[simp] theorem setLane_table (s : State) (l : LaneId) (x : Lane) : (s.setLane l x).table = s.table := rfl
@[simp] theorem setLane_port (s : State) (l : LaneId) (x : Lane) : (s.setLane l x).port = s.port := rfl
@[simp] theorem setLane_lanes (s : State) (l : LaneId) (x : Lane) : (s.setLane l x).lanes = s.lanes.set l x := rfl
@[simp] theorem setLane_bands (s : State) (l : LaneId) (x : Lane) : (s.setLane l x).bands = s.bands := rfl
@[simp] theorem setLane_judge (s : State) (l : LaneId) (x : Lane) : (s.setLane l x).judge = s.judge := rfl
@[simp] theorem setLane_log (s : State) (l : LaneId) (x : Lane) : (s.setLane l x).log = s.log := rfl
@[simp] theorem setLane_desk (s : State) (l : LaneId) (x : Lane) : (s.setLane l x).desk = s.desk := rfl
@[simp] theorem setLane_link (s : State) (l : LaneId) (x : Lane) : (s.setLane l x).link = s.link := rfl
@[simp] theorem setLane_freeReads (s : State) (l : LaneId) (x : Lane) : (s.setLane l x).freeReads = s.freeReads := rfl
@[simp] theorem setLane_pending (s : State) (l : LaneId) (x : Lane) : (s.setLane l x).pending = s.pending := rfl

/-! ## modLane -/

@[simp] theorem modLane_hallTime (s : State) (l : LaneId) (f : Lane → Lane) : (s.modLane l f).hallTime = s.hallTime := rfl
@[simp] theorem modLane_hall (s : State) (l : LaneId) (f : Lane → Lane) : (s.modLane l f).hall = s.hall := rfl
@[simp] theorem modLane_windows (s : State) (l : LaneId) (f : Lane → Lane) : (s.modLane l f).windows = s.windows := rfl
@[simp] theorem modLane_rights (s : State) (l : LaneId) (f : Lane → Lane) : (s.modLane l f).rights = s.rights := rfl
@[simp] theorem modLane_standing (s : State) (l : LaneId) (f : Lane → Lane) : (s.modLane l f).standing = s.standing := rfl
@[simp] theorem modLane_table (s : State) (l : LaneId) (f : Lane → Lane) : (s.modLane l f).table = s.table := rfl
@[simp] theorem modLane_port (s : State) (l : LaneId) (f : Lane → Lane) : (s.modLane l f).port = s.port := rfl
@[simp] theorem modLane_lanes (s : State) (l : LaneId) (f : Lane → Lane) : (s.modLane l f).lanes = s.lanes.set l (f (s.lane l)) := rfl
@[simp] theorem modLane_bands (s : State) (l : LaneId) (f : Lane → Lane) : (s.modLane l f).bands = s.bands := rfl
@[simp] theorem modLane_judge (s : State) (l : LaneId) (f : Lane → Lane) : (s.modLane l f).judge = s.judge := rfl
@[simp] theorem modLane_log (s : State) (l : LaneId) (f : Lane → Lane) : (s.modLane l f).log = s.log := rfl
@[simp] theorem modLane_desk (s : State) (l : LaneId) (f : Lane → Lane) : (s.modLane l f).desk = s.desk := rfl
@[simp] theorem modLane_link (s : State) (l : LaneId) (f : Lane → Lane) : (s.modLane l f).link = s.link := rfl
@[simp] theorem modLane_freeReads (s : State) (l : LaneId) (f : Lane → Lane) : (s.modLane l f).freeReads = s.freeReads := rfl
@[simp] theorem modLane_pending (s : State) (l : LaneId) (f : Lane → Lane) : (s.modLane l f).pending = s.pending := rfl

/-! ## modHead -/

@[simp] theorem modHead_hallTime (s : State) (l : LaneId) (h : HeadPos) (f : HeadUnit → HeadUnit) : (s.modHead l h f).hallTime = s.hallTime := rfl
@[simp] theorem modHead_hall (s : State) (l : LaneId) (h : HeadPos) (f : HeadUnit → HeadUnit) : (s.modHead l h f).hall = s.hall := rfl
@[simp] theorem modHead_windows (s : State) (l : LaneId) (h : HeadPos) (f : HeadUnit → HeadUnit) : (s.modHead l h f).windows = s.windows := rfl
@[simp] theorem modHead_rights (s : State) (l : LaneId) (h : HeadPos) (f : HeadUnit → HeadUnit) : (s.modHead l h f).rights = s.rights := rfl
@[simp] theorem modHead_standing (s : State) (l : LaneId) (h : HeadPos) (f : HeadUnit → HeadUnit) : (s.modHead l h f).standing = s.standing := rfl
@[simp] theorem modHead_table (s : State) (l : LaneId) (h : HeadPos) (f : HeadUnit → HeadUnit) : (s.modHead l h f).table = s.table := rfl
@[simp] theorem modHead_port (s : State) (l : LaneId) (h : HeadPos) (f : HeadUnit → HeadUnit) : (s.modHead l h f).port = s.port := rfl
@[simp] theorem modHead_lanes (s : State) (l : LaneId) (h : HeadPos) (f : HeadUnit → HeadUnit) : (s.modHead l h f).lanes = s.lanes.set l ((s.lane l).setHead h (f ((s.lane l).head h))) := rfl
@[simp] theorem modHead_bands (s : State) (l : LaneId) (h : HeadPos) (f : HeadUnit → HeadUnit) : (s.modHead l h f).bands = s.bands := rfl
@[simp] theorem modHead_judge (s : State) (l : LaneId) (h : HeadPos) (f : HeadUnit → HeadUnit) : (s.modHead l h f).judge = s.judge := rfl
@[simp] theorem modHead_log (s : State) (l : LaneId) (h : HeadPos) (f : HeadUnit → HeadUnit) : (s.modHead l h f).log = s.log := rfl
@[simp] theorem modHead_desk (s : State) (l : LaneId) (h : HeadPos) (f : HeadUnit → HeadUnit) : (s.modHead l h f).desk = s.desk := rfl
@[simp] theorem modHead_link (s : State) (l : LaneId) (h : HeadPos) (f : HeadUnit → HeadUnit) : (s.modHead l h f).link = s.link := rfl
@[simp] theorem modHead_freeReads (s : State) (l : LaneId) (h : HeadPos) (f : HeadUnit → HeadUnit) : (s.modHead l h f).freeReads = s.freeReads := rfl
@[simp] theorem modHead_pending (s : State) (l : LaneId) (h : HeadPos) (f : HeadUnit → HeadUnit) : (s.modHead l h f).pending = s.pending := rfl

/-! ## modCounts -/

@[simp] theorem modCounts_hallTime (s : State) (l : LaneId) (f : LaneCounts → LaneCounts) : (s.modCounts l f).hallTime = s.hallTime := rfl
@[simp] theorem modCounts_hall (s : State) (l : LaneId) (f : LaneCounts → LaneCounts) : (s.modCounts l f).hall = s.hall := rfl
@[simp] theorem modCounts_windows (s : State) (l : LaneId) (f : LaneCounts → LaneCounts) : (s.modCounts l f).windows = s.windows := rfl
@[simp] theorem modCounts_rights (s : State) (l : LaneId) (f : LaneCounts → LaneCounts) : (s.modCounts l f).rights = s.rights := rfl
@[simp] theorem modCounts_standing (s : State) (l : LaneId) (f : LaneCounts → LaneCounts) : (s.modCounts l f).standing = s.standing := rfl
@[simp] theorem modCounts_table (s : State) (l : LaneId) (f : LaneCounts → LaneCounts) : (s.modCounts l f).table = s.table := rfl
@[simp] theorem modCounts_port (s : State) (l : LaneId) (f : LaneCounts → LaneCounts) : (s.modCounts l f).port = s.port := rfl
@[simp] theorem modCounts_lanes (s : State) (l : LaneId) (f : LaneCounts → LaneCounts) : (s.modCounts l f).lanes = s.lanes.set l { s.lane l with counts := f (s.lane l).counts } := rfl
@[simp] theorem modCounts_bands (s : State) (l : LaneId) (f : LaneCounts → LaneCounts) : (s.modCounts l f).bands = s.bands := rfl
@[simp] theorem modCounts_judge (s : State) (l : LaneId) (f : LaneCounts → LaneCounts) : (s.modCounts l f).judge = s.judge := rfl
@[simp] theorem modCounts_log (s : State) (l : LaneId) (f : LaneCounts → LaneCounts) : (s.modCounts l f).log = s.log := rfl
@[simp] theorem modCounts_desk (s : State) (l : LaneId) (f : LaneCounts → LaneCounts) : (s.modCounts l f).desk = s.desk := rfl
@[simp] theorem modCounts_link (s : State) (l : LaneId) (f : LaneCounts → LaneCounts) : (s.modCounts l f).link = s.link := rfl
@[simp] theorem modCounts_freeReads (s : State) (l : LaneId) (f : LaneCounts → LaneCounts) : (s.modCounts l f).freeReads = s.freeReads := rfl
@[simp] theorem modCounts_pending (s : State) (l : LaneId) (f : LaneCounts → LaneCounts) : (s.modCounts l f).pending = s.pending := rfl

/-! ## setFlight -/

@[simp] theorem setFlight_hallTime (s : State) (l : LaneId) (f : Flight) : (s.setFlight l f).hallTime = s.hallTime := rfl
@[simp] theorem setFlight_hall (s : State) (l : LaneId) (f : Flight) : (s.setFlight l f).hall = s.hall := rfl
@[simp] theorem setFlight_windows (s : State) (l : LaneId) (f : Flight) : (s.setFlight l f).windows = s.windows := rfl
@[simp] theorem setFlight_rights (s : State) (l : LaneId) (f : Flight) : (s.setFlight l f).rights = s.rights := rfl
@[simp] theorem setFlight_standing (s : State) (l : LaneId) (f : Flight) : (s.setFlight l f).standing = s.standing := rfl
@[simp] theorem setFlight_table (s : State) (l : LaneId) (f : Flight) : (s.setFlight l f).table = s.table := rfl
@[simp] theorem setFlight_port (s : State) (l : LaneId) (f : Flight) : (s.setFlight l f).port = s.port := rfl
@[simp] theorem setFlight_lanes (s : State) (l : LaneId) (f : Flight) : (s.setFlight l f).lanes = s.lanes.set l { s.lane l with flight := f } := rfl
@[simp] theorem setFlight_bands (s : State) (l : LaneId) (f : Flight) : (s.setFlight l f).bands = s.bands := rfl
@[simp] theorem setFlight_judge (s : State) (l : LaneId) (f : Flight) : (s.setFlight l f).judge = s.judge := rfl
@[simp] theorem setFlight_log (s : State) (l : LaneId) (f : Flight) : (s.setFlight l f).log = s.log := rfl
@[simp] theorem setFlight_desk (s : State) (l : LaneId) (f : Flight) : (s.setFlight l f).desk = s.desk := rfl
@[simp] theorem setFlight_link (s : State) (l : LaneId) (f : Flight) : (s.setFlight l f).link = s.link := rfl
@[simp] theorem setFlight_freeReads (s : State) (l : LaneId) (f : Flight) : (s.setFlight l f).freeReads = s.freeReads := rfl
@[simp] theorem setFlight_pending (s : State) (l : LaneId) (f : Flight) : (s.setFlight l f).pending = s.pending := rfl

/-! ## setBand -/

@[simp] theorem setBand_hallTime (s : State) (g : GroupId) (a : BandArbiter) : (s.setBand g a).hallTime = s.hallTime := rfl
@[simp] theorem setBand_hall (s : State) (g : GroupId) (a : BandArbiter) : (s.setBand g a).hall = s.hall := rfl
@[simp] theorem setBand_windows (s : State) (g : GroupId) (a : BandArbiter) : (s.setBand g a).windows = s.windows := rfl
@[simp] theorem setBand_rights (s : State) (g : GroupId) (a : BandArbiter) : (s.setBand g a).rights = s.rights := rfl
@[simp] theorem setBand_standing (s : State) (g : GroupId) (a : BandArbiter) : (s.setBand g a).standing = s.standing := rfl
@[simp] theorem setBand_table (s : State) (g : GroupId) (a : BandArbiter) : (s.setBand g a).table = s.table := rfl
@[simp] theorem setBand_port (s : State) (g : GroupId) (a : BandArbiter) : (s.setBand g a).port = s.port := rfl
@[simp] theorem setBand_lanes (s : State) (g : GroupId) (a : BandArbiter) : (s.setBand g a).lanes = s.lanes := rfl
@[simp] theorem setBand_bands (s : State) (g : GroupId) (a : BandArbiter) : (s.setBand g a).bands = s.bands.set g a := rfl
@[simp] theorem setBand_judge (s : State) (g : GroupId) (a : BandArbiter) : (s.setBand g a).judge = s.judge := rfl
@[simp] theorem setBand_log (s : State) (g : GroupId) (a : BandArbiter) : (s.setBand g a).log = s.log := rfl
@[simp] theorem setBand_desk (s : State) (g : GroupId) (a : BandArbiter) : (s.setBand g a).desk = s.desk := rfl
@[simp] theorem setBand_link (s : State) (g : GroupId) (a : BandArbiter) : (s.setBand g a).link = s.link := rfl
@[simp] theorem setBand_freeReads (s : State) (g : GroupId) (a : BandArbiter) : (s.setBand g a).freeReads = s.freeReads := rfl
@[simp] theorem setBand_pending (s : State) (g : GroupId) (a : BandArbiter) : (s.setBand g a).pending = s.pending := rfl

/-! ## raise -/

@[simp] theorem raise_hallTime (s : State) (n : Notice) : (s.raise n).hallTime = s.hallTime := rfl
@[simp] theorem raise_hall (s : State) (n : Notice) : (s.raise n).hall = s.hall := rfl
@[simp] theorem raise_windows (s : State) (n : Notice) : (s.raise n).windows = s.windows := rfl
@[simp] theorem raise_rights (s : State) (n : Notice) : (s.raise n).rights = s.rights := rfl
@[simp] theorem raise_standing (s : State) (n : Notice) : (s.raise n).standing = s.standing := rfl
@[simp] theorem raise_table (s : State) (n : Notice) : (s.raise n).table = s.table := rfl
@[simp] theorem raise_port (s : State) (n : Notice) : (s.raise n).port = s.port := rfl
@[simp] theorem raise_lanes (s : State) (n : Notice) : (s.raise n).lanes = s.lanes := rfl
@[simp] theorem raise_bands (s : State) (n : Notice) : (s.raise n).bands = s.bands := rfl
@[simp] theorem raise_judge (s : State) (n : Notice) : (s.raise n).judge = s.judge := rfl
@[simp] theorem raise_log (s : State) (n : Notice) : (s.raise n).log = s.log := rfl
@[simp] theorem raise_desk (s : State) (n : Notice) : (s.raise n).desk = s.desk := rfl
@[simp] theorem raise_link (s : State) (n : Notice) : (s.raise n).link = { s.link with notices := s.link.notices.add n, noticeLine := true } := rfl
@[simp] theorem raise_freeReads (s : State) (n : Notice) : (s.raise n).freeReads = s.freeReads := rfl
@[simp] theorem raise_pending (s : State) (n : Notice) : (s.raise n).pending = s.pending := rfl

/-! ## putEntry -/

@[simp] theorem putEntry_hallTime (s : State) (e : Entry) : (s.putEntry e).hallTime = s.hallTime := rfl
@[simp] theorem putEntry_hall (s : State) (e : Entry) : (s.putEntry e).hall = s.hall := rfl
@[simp] theorem putEntry_windows (s : State) (e : Entry) : (s.putEntry e).windows = s.windows := rfl
@[simp] theorem putEntry_rights (s : State) (e : Entry) : (s.putEntry e).rights = s.rights := rfl
@[simp] theorem putEntry_standing (s : State) (e : Entry) : (s.putEntry e).standing = s.standing := rfl
@[simp] theorem putEntry_table (s : State) (e : Entry) : (s.putEntry e).table = { s.table with entries := insertEntry e s.table.entries } := rfl
@[simp] theorem putEntry_port (s : State) (e : Entry) : (s.putEntry e).port = s.port := rfl
@[simp] theorem putEntry_lanes (s : State) (e : Entry) : (s.putEntry e).lanes = s.lanes := rfl
@[simp] theorem putEntry_bands (s : State) (e : Entry) : (s.putEntry e).bands = s.bands := rfl
@[simp] theorem putEntry_judge (s : State) (e : Entry) : (s.putEntry e).judge = s.judge := rfl
@[simp] theorem putEntry_log (s : State) (e : Entry) : (s.putEntry e).log = s.log := rfl
@[simp] theorem putEntry_desk (s : State) (e : Entry) : (s.putEntry e).desk = s.desk := rfl
@[simp] theorem putEntry_link (s : State) (e : Entry) : (s.putEntry e).link = s.link := rfl
@[simp] theorem putEntry_freeReads (s : State) (e : Entry) : (s.putEntry e).freeReads = s.freeReads := rfl
@[simp] theorem putEntry_pending (s : State) (e : Entry) : (s.putEntry e).pending = s.pending := rfl

/-! ## dropEntry -/

@[simp] theorem dropEntry_hallTime (s : State) (i : Item) : (s.dropEntry i).hallTime = s.hallTime := rfl
@[simp] theorem dropEntry_hall (s : State) (i : Item) : (s.dropEntry i).hall = s.hall := rfl
@[simp] theorem dropEntry_windows (s : State) (i : Item) : (s.dropEntry i).windows = s.windows := rfl
@[simp] theorem dropEntry_rights (s : State) (i : Item) : (s.dropEntry i).rights = s.rights := rfl
@[simp] theorem dropEntry_standing (s : State) (i : Item) : (s.dropEntry i).standing = s.standing := rfl
@[simp] theorem dropEntry_table (s : State) (i : Item) : (s.dropEntry i).table = { s.table with entries := s.table.entries.filter fun e => e.item != i } := rfl
@[simp] theorem dropEntry_port (s : State) (i : Item) : (s.dropEntry i).port = s.port := rfl
@[simp] theorem dropEntry_lanes (s : State) (i : Item) : (s.dropEntry i).lanes = s.lanes := rfl
@[simp] theorem dropEntry_bands (s : State) (i : Item) : (s.dropEntry i).bands = s.bands := rfl
@[simp] theorem dropEntry_judge (s : State) (i : Item) : (s.dropEntry i).judge = s.judge := rfl
@[simp] theorem dropEntry_log (s : State) (i : Item) : (s.dropEntry i).log = s.log := rfl
@[simp] theorem dropEntry_desk (s : State) (i : Item) : (s.dropEntry i).desk = s.desk := rfl
@[simp] theorem dropEntry_link (s : State) (i : Item) : (s.dropEntry i).link = s.link := rfl
@[simp] theorem dropEntry_freeReads (s : State) (i : Item) : (s.dropEntry i).freeReads = s.freeReads := rfl
@[simp] theorem dropEntry_pending (s : State) (i : Item) : (s.dropEntry i).pending = s.pending := rfl

/-! ## setPendingCount -/

@[simp] theorem setPendingCount_hallTime (s : State) (src : Source) (n : Nat) : (s.setPendingCount src n).hallTime = s.hallTime := rfl
@[simp] theorem setPendingCount_hall (s : State) (src : Source) (n : Nat) : (s.setPendingCount src n).hall = s.hall := rfl
@[simp] theorem setPendingCount_windows (s : State) (src : Source) (n : Nat) : (s.setPendingCount src n).windows = s.windows := rfl
@[simp] theorem setPendingCount_rights (s : State) (src : Source) (n : Nat) : (s.setPendingCount src n).rights = s.rights := rfl
@[simp] theorem setPendingCount_standing (s : State) (src : Source) (n : Nat) : (s.setPendingCount src n).standing = s.standing := rfl
@[simp] theorem setPendingCount_table (s : State) (src : Source) (n : Nat) : (s.setPendingCount src n).table = { s.table with pendingCounts := s.table.pendingCounts.set src.index n } := rfl
@[simp] theorem setPendingCount_port (s : State) (src : Source) (n : Nat) : (s.setPendingCount src n).port = s.port := rfl
@[simp] theorem setPendingCount_lanes (s : State) (src : Source) (n : Nat) : (s.setPendingCount src n).lanes = s.lanes := rfl
@[simp] theorem setPendingCount_bands (s : State) (src : Source) (n : Nat) : (s.setPendingCount src n).bands = s.bands := rfl
@[simp] theorem setPendingCount_judge (s : State) (src : Source) (n : Nat) : (s.setPendingCount src n).judge = s.judge := rfl
@[simp] theorem setPendingCount_log (s : State) (src : Source) (n : Nat) : (s.setPendingCount src n).log = s.log := rfl
@[simp] theorem setPendingCount_desk (s : State) (src : Source) (n : Nat) : (s.setPendingCount src n).desk = s.desk := rfl
@[simp] theorem setPendingCount_link (s : State) (src : Source) (n : Nat) : (s.setPendingCount src n).link = s.link := rfl
@[simp] theorem setPendingCount_freeReads (s : State) (src : Source) (n : Nat) : (s.setPendingCount src n).freeReads = s.freeReads := rfl
@[simp] theorem setPendingCount_pending (s : State) (src : Source) (n : Nat) : (s.setPendingCount src n).pending = s.pending := rfl

/-! ## notify -/

@[simp] theorem notify_hallTime (s : State) (i : Item) (k : ChangeKind) : (s.notify i k).hallTime = s.hallTime := rfl
@[simp] theorem notify_hall (s : State) (i : Item) (k : ChangeKind) : (s.notify i k).hall = s.hall := rfl
@[simp] theorem notify_windows (s : State) (i : Item) (k : ChangeKind) : (s.notify i k).windows = s.windows := rfl
@[simp] theorem notify_rights (s : State) (i : Item) (k : ChangeKind) : (s.notify i k).rights = s.rights := rfl
@[simp] theorem notify_standing (s : State) (i : Item) (k : ChangeKind) : (s.notify i k).standing = s.standing := rfl
@[simp] theorem notify_table (s : State) (i : Item) (k : ChangeKind) : (s.notify i k).table = s.table := rfl
@[simp] theorem notify_port (s : State) (i : Item) (k : ChangeKind) : (s.notify i k).port = s.port := rfl
@[simp] theorem notify_lanes (s : State) (i : Item) (k : ChangeKind) : (s.notify i k).lanes = s.lanes := rfl
@[simp] theorem notify_bands (s : State) (i : Item) (k : ChangeKind) : (s.notify i k).bands = s.bands := rfl
@[simp] theorem notify_judge (s : State) (i : Item) (k : ChangeKind) : (s.notify i k).judge = { s.judge with inbox := s.judge.inbox ++ [.notice i k] } := rfl
@[simp] theorem notify_log (s : State) (i : Item) (k : ChangeKind) : (s.notify i k).log = s.log := rfl
@[simp] theorem notify_desk (s : State) (i : Item) (k : ChangeKind) : (s.notify i k).desk = s.desk := rfl
@[simp] theorem notify_link (s : State) (i : Item) (k : ChangeKind) : (s.notify i k).link = s.link := rfl
@[simp] theorem notify_freeReads (s : State) (i : Item) (k : ChangeKind) : (s.notify i k).freeReads = s.freeReads := rfl
@[simp] theorem notify_pending (s : State) (i : Item) (k : ChangeKind) : (s.notify i k).pending = s.pending := rfl

/-! ## setPort -/

@[simp] theorem setPort_hallTime (s : State) (p : TablePort) : (s.setPort p).hallTime = s.hallTime := rfl
@[simp] theorem setPort_hall (s : State) (p : TablePort) : (s.setPort p).hall = s.hall := rfl
@[simp] theorem setPort_windows (s : State) (p : TablePort) : (s.setPort p).windows = s.windows := rfl
@[simp] theorem setPort_rights (s : State) (p : TablePort) : (s.setPort p).rights = s.rights := rfl
@[simp] theorem setPort_standing (s : State) (p : TablePort) : (s.setPort p).standing = s.standing := rfl
@[simp] theorem setPort_table (s : State) (p : TablePort) : (s.setPort p).table = s.table := rfl
@[simp] theorem setPort_port (s : State) (p : TablePort) : (s.setPort p).port = p := rfl
@[simp] theorem setPort_lanes (s : State) (p : TablePort) : (s.setPort p).lanes = s.lanes := rfl
@[simp] theorem setPort_bands (s : State) (p : TablePort) : (s.setPort p).bands = s.bands := rfl
@[simp] theorem setPort_judge (s : State) (p : TablePort) : (s.setPort p).judge = s.judge := rfl
@[simp] theorem setPort_log (s : State) (p : TablePort) : (s.setPort p).log = s.log := rfl
@[simp] theorem setPort_desk (s : State) (p : TablePort) : (s.setPort p).desk = s.desk := rfl
@[simp] theorem setPort_link (s : State) (p : TablePort) : (s.setPort p).link = s.link := rfl
@[simp] theorem setPort_freeReads (s : State) (p : TablePort) : (s.setPort p).freeReads = s.freeReads := rfl
@[simp] theorem setPort_pending (s : State) (p : TablePort) : (s.setPort p).pending = s.pending := rfl

/-! ## setRecords -/

@[simp] theorem setRecords_hallTime (s : State) (rs : List AlarmRecord) : (s.setRecords rs).hallTime = s.hallTime := rfl
@[simp] theorem setRecords_hall (s : State) (rs : List AlarmRecord) : (s.setRecords rs).hall = s.hall := rfl
@[simp] theorem setRecords_windows (s : State) (rs : List AlarmRecord) : (s.setRecords rs).windows = s.windows := rfl
@[simp] theorem setRecords_rights (s : State) (rs : List AlarmRecord) : (s.setRecords rs).rights = s.rights := rfl
@[simp] theorem setRecords_standing (s : State) (rs : List AlarmRecord) : (s.setRecords rs).standing = s.standing := rfl
@[simp] theorem setRecords_table (s : State) (rs : List AlarmRecord) : (s.setRecords rs).table = s.table := rfl
@[simp] theorem setRecords_port (s : State) (rs : List AlarmRecord) : (s.setRecords rs).port = s.port := rfl
@[simp] theorem setRecords_lanes (s : State) (rs : List AlarmRecord) : (s.setRecords rs).lanes = s.lanes := rfl
@[simp] theorem setRecords_bands (s : State) (rs : List AlarmRecord) : (s.setRecords rs).bands = s.bands := rfl
@[simp] theorem setRecords_judge (s : State) (rs : List AlarmRecord) : (s.setRecords rs).judge = s.judge := rfl
@[simp] theorem setRecords_log (s : State) (rs : List AlarmRecord) : (s.setRecords rs).log = { s.log with records := rs } := rfl
@[simp] theorem setRecords_desk (s : State) (rs : List AlarmRecord) : (s.setRecords rs).desk = s.desk := rfl
@[simp] theorem setRecords_link (s : State) (rs : List AlarmRecord) : (s.setRecords rs).link = s.link := rfl
@[simp] theorem setRecords_freeReads (s : State) (rs : List AlarmRecord) : (s.setRecords rs).freeReads = s.freeReads := rfl
@[simp] theorem setRecords_pending (s : State) (rs : List AlarmRecord) : (s.setRecords rs).pending = s.pending := rfl

/-! ## modJudgement -/

@[simp] theorem modJudgement_hallTime (s : State) (i : Item) (f : Judgement → Judgement) : (s.modJudgement i f).hallTime = s.hallTime := rfl
@[simp] theorem modJudgement_hall (s : State) (i : Item) (f : Judgement → Judgement) : (s.modJudgement i f).hall = s.hall := rfl
@[simp] theorem modJudgement_windows (s : State) (i : Item) (f : Judgement → Judgement) : (s.modJudgement i f).windows = s.windows := rfl
@[simp] theorem modJudgement_rights (s : State) (i : Item) (f : Judgement → Judgement) : (s.modJudgement i f).rights = s.rights := rfl
@[simp] theorem modJudgement_standing (s : State) (i : Item) (f : Judgement → Judgement) : (s.modJudgement i f).standing = s.standing := rfl
@[simp] theorem modJudgement_table (s : State) (i : Item) (f : Judgement → Judgement) : (s.modJudgement i f).table = s.table := rfl
@[simp] theorem modJudgement_port (s : State) (i : Item) (f : Judgement → Judgement) : (s.modJudgement i f).port = s.port := rfl
@[simp] theorem modJudgement_lanes (s : State) (i : Item) (f : Judgement → Judgement) : (s.modJudgement i f).lanes = s.lanes := rfl
@[simp] theorem modJudgement_bands (s : State) (i : Item) (f : Judgement → Judgement) : (s.modJudgement i f).bands = s.bands := rfl
@[simp] theorem modJudgement_judge (s : State) (i : Item) (f : Judgement → Judgement) : (s.modJudgement i f).judge = { s.judge with entries := s.judge.entries.map fun j => if j.item == i then f j else j } := rfl
@[simp] theorem modJudgement_log (s : State) (i : Item) (f : Judgement → Judgement) : (s.modJudgement i f).log = s.log := rfl
@[simp] theorem modJudgement_desk (s : State) (i : Item) (f : Judgement → Judgement) : (s.modJudgement i f).desk = s.desk := rfl
@[simp] theorem modJudgement_link (s : State) (i : Item) (f : Judgement → Judgement) : (s.modJudgement i f).link = s.link := rfl
@[simp] theorem modJudgement_freeReads (s : State) (i : Item) (f : Judgement → Judgement) : (s.modJudgement i f).freeReads = s.freeReads := rfl
@[simp] theorem modJudgement_pending (s : State) (i : Item) (f : Judgement → Judgement) : (s.modJudgement i f).pending = s.pending := rfl

/-! ## addJudgement -/

@[simp] theorem addJudgement_hallTime (s : State) (j : Judgement) : (s.addJudgement j).hallTime = s.hallTime := rfl
@[simp] theorem addJudgement_hall (s : State) (j : Judgement) : (s.addJudgement j).hall = s.hall := rfl
@[simp] theorem addJudgement_windows (s : State) (j : Judgement) : (s.addJudgement j).windows = s.windows := rfl
@[simp] theorem addJudgement_rights (s : State) (j : Judgement) : (s.addJudgement j).rights = s.rights := rfl
@[simp] theorem addJudgement_standing (s : State) (j : Judgement) : (s.addJudgement j).standing = s.standing := rfl
@[simp] theorem addJudgement_table (s : State) (j : Judgement) : (s.addJudgement j).table = s.table := rfl
@[simp] theorem addJudgement_port (s : State) (j : Judgement) : (s.addJudgement j).port = s.port := rfl
@[simp] theorem addJudgement_lanes (s : State) (j : Judgement) : (s.addJudgement j).lanes = s.lanes := rfl
@[simp] theorem addJudgement_bands (s : State) (j : Judgement) : (s.addJudgement j).bands = s.bands := rfl
@[simp] theorem addJudgement_judge (s : State) (j : Judgement) : (s.addJudgement j).judge = { s.judge with entries := s.judge.entries ++ [j] } := rfl
@[simp] theorem addJudgement_log (s : State) (j : Judgement) : (s.addJudgement j).log = s.log := rfl
@[simp] theorem addJudgement_desk (s : State) (j : Judgement) : (s.addJudgement j).desk = s.desk := rfl
@[simp] theorem addJudgement_link (s : State) (j : Judgement) : (s.addJudgement j).link = s.link := rfl
@[simp] theorem addJudgement_freeReads (s : State) (j : Judgement) : (s.addJudgement j).freeReads = s.freeReads := rfl
@[simp] theorem addJudgement_pending (s : State) (j : Judgement) : (s.addJudgement j).pending = s.pending := rfl

/-! ## setStanding -/

@[simp] theorem setStanding_hallTime (s : State) (d : DeskId) (r : Option Standing) : (s.setStanding d r).hallTime = s.hallTime := rfl
@[simp] theorem setStanding_hall (s : State) (d : DeskId) (r : Option Standing) : (s.setStanding d r).hall = s.hall := rfl
@[simp] theorem setStanding_windows (s : State) (d : DeskId) (r : Option Standing) : (s.setStanding d r).windows = s.windows := rfl
@[simp] theorem setStanding_rights (s : State) (d : DeskId) (r : Option Standing) : (s.setStanding d r).rights = s.rights := rfl
@[simp] theorem setStanding_standing (s : State) (d : DeskId) (r : Option Standing) : (s.setStanding d r).standing = s.standing.set d r := rfl
@[simp] theorem setStanding_table (s : State) (d : DeskId) (r : Option Standing) : (s.setStanding d r).table = s.table := rfl
@[simp] theorem setStanding_port (s : State) (d : DeskId) (r : Option Standing) : (s.setStanding d r).port = s.port := rfl
@[simp] theorem setStanding_lanes (s : State) (d : DeskId) (r : Option Standing) : (s.setStanding d r).lanes = s.lanes := rfl
@[simp] theorem setStanding_bands (s : State) (d : DeskId) (r : Option Standing) : (s.setStanding d r).bands = s.bands := rfl
@[simp] theorem setStanding_judge (s : State) (d : DeskId) (r : Option Standing) : (s.setStanding d r).judge = s.judge := rfl
@[simp] theorem setStanding_log (s : State) (d : DeskId) (r : Option Standing) : (s.setStanding d r).log = s.log := rfl
@[simp] theorem setStanding_desk (s : State) (d : DeskId) (r : Option Standing) : (s.setStanding d r).desk = s.desk := rfl
@[simp] theorem setStanding_link (s : State) (d : DeskId) (r : Option Standing) : (s.setStanding d r).link = s.link := rfl
@[simp] theorem setStanding_freeReads (s : State) (d : DeskId) (r : Option Standing) : (s.setStanding d r).freeReads = s.freeReads := rfl
@[simp] theorem setStanding_pending (s : State) (d : DeskId) (r : Option Standing) : (s.setStanding d r).pending = s.pending := rfl

/-! ## tick -/

@[simp] theorem tick_hallTime (s : State) : (s.tick).hallTime = (s.hallTime + 1) % hallModulus := rfl
@[simp] theorem tick_hall (s : State) : (s.tick).hall = s.hall := rfl
@[simp] theorem tick_windows (s : State) : (s.tick).windows = s.windows := rfl
@[simp] theorem tick_rights (s : State) : (s.tick).rights = s.rights := rfl
@[simp] theorem tick_standing (s : State) : (s.tick).standing = s.standing := rfl
@[simp] theorem tick_table (s : State) : (s.tick).table = s.table := rfl
@[simp] theorem tick_port (s : State) : (s.tick).port = s.port := rfl
@[simp] theorem tick_lanes (s : State) : (s.tick).lanes = s.lanes := rfl
@[simp] theorem tick_bands (s : State) : (s.tick).bands = s.bands := rfl
@[simp] theorem tick_judge (s : State) : (s.tick).judge = s.judge := rfl
@[simp] theorem tick_log (s : State) : (s.tick).log = s.log := rfl
@[simp] theorem tick_desk (s : State) : (s.tick).desk = s.desk := rfl
@[simp] theorem tick_link (s : State) : (s.tick).link = s.link := rfl
@[simp] theorem tick_freeReads (s : State) : (s.tick).freeReads = s.freeReads := rfl
@[simp] theorem tick_pending (s : State) : (s.tick).pending = s.pending := rfl

/-! ## withCommand -/

@[simp] theorem withCommand_hallTime (s : State) (c : Instr) : (s.withCommand c).hallTime = s.hallTime := rfl
@[simp] theorem withCommand_hall (s : State) (c : Instr) : (s.withCommand c).hall = s.hall := rfl
@[simp] theorem withCommand_windows (s : State) (c : Instr) : (s.withCommand c).windows = s.windows := rfl
@[simp] theorem withCommand_rights (s : State) (c : Instr) : (s.withCommand c).rights = s.rights := rfl
@[simp] theorem withCommand_standing (s : State) (c : Instr) : (s.withCommand c).standing = s.standing := rfl
@[simp] theorem withCommand_table (s : State) (c : Instr) : (s.withCommand c).table = s.table := rfl
@[simp] theorem withCommand_port (s : State) (c : Instr) : (s.withCommand c).port = s.port := rfl
@[simp] theorem withCommand_lanes (s : State) (c : Instr) : (s.withCommand c).lanes = s.lanes := rfl
@[simp] theorem withCommand_bands (s : State) (c : Instr) : (s.withCommand c).bands = s.bands := rfl
@[simp] theorem withCommand_judge (s : State) (c : Instr) : (s.withCommand c).judge = s.judge := rfl
@[simp] theorem withCommand_log (s : State) (c : Instr) : (s.withCommand c).log = s.log := rfl
@[simp] theorem withCommand_desk (s : State) (c : Instr) : (s.withCommand c).desk = s.desk := rfl
@[simp] theorem withCommand_link (s : State) (c : Instr) : (s.withCommand c).link = s.link := rfl
@[simp] theorem withCommand_freeReads (s : State) (c : Instr) : (s.withCommand c).freeReads = s.freeReads := rfl
@[simp] theorem withCommand_pending (s : State) (c : Instr) : (s.withCommand c).pending = c :: s.pending := rfl

/-! ## modDesk -/

@[simp] theorem modDesk_hallTime (s : State) (f : DeskPort → DeskPort) : (s.modDesk f).hallTime = s.hallTime := rfl
@[simp] theorem modDesk_hall (s : State) (f : DeskPort → DeskPort) : (s.modDesk f).hall = s.hall := rfl
@[simp] theorem modDesk_windows (s : State) (f : DeskPort → DeskPort) : (s.modDesk f).windows = s.windows := rfl
@[simp] theorem modDesk_rights (s : State) (f : DeskPort → DeskPort) : (s.modDesk f).rights = s.rights := rfl
@[simp] theorem modDesk_standing (s : State) (f : DeskPort → DeskPort) : (s.modDesk f).standing = s.standing := rfl
@[simp] theorem modDesk_table (s : State) (f : DeskPort → DeskPort) : (s.modDesk f).table = s.table := rfl
@[simp] theorem modDesk_port (s : State) (f : DeskPort → DeskPort) : (s.modDesk f).port = s.port := rfl
@[simp] theorem modDesk_lanes (s : State) (f : DeskPort → DeskPort) : (s.modDesk f).lanes = s.lanes := rfl
@[simp] theorem modDesk_bands (s : State) (f : DeskPort → DeskPort) : (s.modDesk f).bands = s.bands := rfl
@[simp] theorem modDesk_judge (s : State) (f : DeskPort → DeskPort) : (s.modDesk f).judge = s.judge := rfl
@[simp] theorem modDesk_log (s : State) (f : DeskPort → DeskPort) : (s.modDesk f).log = s.log := rfl
@[simp] theorem modDesk_desk (s : State) (f : DeskPort → DeskPort) : (s.modDesk f).desk = f s.desk := rfl
@[simp] theorem modDesk_link (s : State) (f : DeskPort → DeskPort) : (s.modDesk f).link = s.link := rfl
@[simp] theorem modDesk_freeReads (s : State) (f : DeskPort → DeskPort) : (s.modDesk f).freeReads = s.freeReads := rfl
@[simp] theorem modDesk_pending (s : State) (f : DeskPort → DeskPort) : (s.modDesk f).pending = s.pending := rfl

/-! ## modLink -/

@[simp] theorem modLink_hallTime (s : State) (f : LinkPort → LinkPort) : (s.modLink f).hallTime = s.hallTime := rfl
@[simp] theorem modLink_hall (s : State) (f : LinkPort → LinkPort) : (s.modLink f).hall = s.hall := rfl
@[simp] theorem modLink_windows (s : State) (f : LinkPort → LinkPort) : (s.modLink f).windows = s.windows := rfl
@[simp] theorem modLink_rights (s : State) (f : LinkPort → LinkPort) : (s.modLink f).rights = s.rights := rfl
@[simp] theorem modLink_standing (s : State) (f : LinkPort → LinkPort) : (s.modLink f).standing = s.standing := rfl
@[simp] theorem modLink_table (s : State) (f : LinkPort → LinkPort) : (s.modLink f).table = s.table := rfl
@[simp] theorem modLink_port (s : State) (f : LinkPort → LinkPort) : (s.modLink f).port = s.port := rfl
@[simp] theorem modLink_lanes (s : State) (f : LinkPort → LinkPort) : (s.modLink f).lanes = s.lanes := rfl
@[simp] theorem modLink_bands (s : State) (f : LinkPort → LinkPort) : (s.modLink f).bands = s.bands := rfl
@[simp] theorem modLink_judge (s : State) (f : LinkPort → LinkPort) : (s.modLink f).judge = s.judge := rfl
@[simp] theorem modLink_log (s : State) (f : LinkPort → LinkPort) : (s.modLink f).log = s.log := rfl
@[simp] theorem modLink_desk (s : State) (f : LinkPort → LinkPort) : (s.modLink f).desk = s.desk := rfl
@[simp] theorem modLink_link (s : State) (f : LinkPort → LinkPort) : (s.modLink f).link = f s.link := rfl
@[simp] theorem modLink_freeReads (s : State) (f : LinkPort → LinkPort) : (s.modLink f).freeReads = s.freeReads := rfl
@[simp] theorem modLink_pending (s : State) (f : LinkPort → LinkPort) : (s.modLink f).pending = s.pending := rfl

/-! ## setWork -/

@[simp] theorem setWork_hallTime (s : State) (p : PortId) (w : Work) : (s.setWork p w).hallTime = s.hallTime := by cases p <;> rfl
@[simp] theorem setWork_hall (s : State) (p : PortId) (w : Work) : (s.setWork p w).hall = s.hall := by cases p <;> rfl
@[simp] theorem setWork_windows (s : State) (p : PortId) (w : Work) : (s.setWork p w).windows = s.windows := by cases p <;> rfl
@[simp] theorem setWork_rights (s : State) (p : PortId) (w : Work) : (s.setWork p w).rights = s.rights := by cases p <;> rfl
@[simp] theorem setWork_standing (s : State) (p : PortId) (w : Work) : (s.setWork p w).standing = s.standing := by cases p <;> rfl
@[simp] theorem setWork_table (s : State) (p : PortId) (w : Work) : (s.setWork p w).table = s.table := by cases p <;> rfl
@[simp] theorem setWork_port (s : State) (p : PortId) (w : Work) : (s.setWork p w).port = s.port := by cases p <;> rfl
@[simp] theorem setWork_lanes (s : State) (p : PortId) (w : Work) : (s.setWork p w).lanes = s.lanes := by cases p <;> rfl
@[simp] theorem setWork_bands (s : State) (p : PortId) (w : Work) : (s.setWork p w).bands = s.bands := by cases p <;> rfl
@[simp] theorem setWork_judge (s : State) (p : PortId) (w : Work) : (s.setWork p w).judge = s.judge := by cases p <;> rfl
@[simp] theorem setWork_log (s : State) (p : PortId) (w : Work) : (s.setWork p w).log = s.log := by cases p <;> rfl
@[simp] theorem setWork_freeReads (s : State) (p : PortId) (w : Work) : (s.setWork p w).freeReads = s.freeReads := by cases p <;> rfl
@[simp] theorem setWork_pending (s : State) (p : PortId) (w : Work) : (s.setWork p w).pending = s.pending := by cases p <;> rfl

/-! ## replyOn -/

@[simp] theorem replyOn_hallTime (s : State) (p : PortId) (k : Byte) (bs : List Byte) : (s.replyOn p k bs).hallTime = s.hallTime := by cases p <;> rfl
@[simp] theorem replyOn_hall (s : State) (p : PortId) (k : Byte) (bs : List Byte) : (s.replyOn p k bs).hall = s.hall := by cases p <;> rfl
@[simp] theorem replyOn_windows (s : State) (p : PortId) (k : Byte) (bs : List Byte) : (s.replyOn p k bs).windows = s.windows := by cases p <;> rfl
@[simp] theorem replyOn_rights (s : State) (p : PortId) (k : Byte) (bs : List Byte) : (s.replyOn p k bs).rights = s.rights := by cases p <;> rfl
@[simp] theorem replyOn_standing (s : State) (p : PortId) (k : Byte) (bs : List Byte) : (s.replyOn p k bs).standing = s.standing := by cases p <;> rfl
@[simp] theorem replyOn_table (s : State) (p : PortId) (k : Byte) (bs : List Byte) : (s.replyOn p k bs).table = s.table := by cases p <;> rfl
@[simp] theorem replyOn_port (s : State) (p : PortId) (k : Byte) (bs : List Byte) : (s.replyOn p k bs).port = s.port := by cases p <;> rfl
@[simp] theorem replyOn_lanes (s : State) (p : PortId) (k : Byte) (bs : List Byte) : (s.replyOn p k bs).lanes = s.lanes := by cases p <;> rfl
@[simp] theorem replyOn_bands (s : State) (p : PortId) (k : Byte) (bs : List Byte) : (s.replyOn p k bs).bands = s.bands := by cases p <;> rfl
@[simp] theorem replyOn_judge (s : State) (p : PortId) (k : Byte) (bs : List Byte) : (s.replyOn p k bs).judge = s.judge := by cases p <;> rfl
@[simp] theorem replyOn_log (s : State) (p : PortId) (k : Byte) (bs : List Byte) : (s.replyOn p k bs).log = s.log := by cases p <;> rfl
@[simp] theorem replyOn_freeReads (s : State) (p : PortId) (k : Byte) (bs : List Byte) : (s.replyOn p k bs).freeReads = s.freeReads := by cases p <;> rfl
@[simp] theorem replyOn_pending (s : State) (p : PortId) (k : Byte) (bs : List Byte) : (s.replyOn p k bs).pending = s.pending := by cases p <;> rfl

@[simp] theorem setWork_desk_desk (s : State) (w : Work) : (s.setWork .desk w).desk = { s.desk with work := w } := rfl
@[simp] theorem setWork_desk_link (s : State) (w : Work) : (s.setWork .desk w).link = s.link := rfl
@[simp] theorem setWork_link_link (s : State) (w : Work) : (s.setWork .link w).link = { s.link with work := w } := rfl
@[simp] theorem setWork_link_desk (s : State) (w : Work) : (s.setWork .link w).desk = s.desk := rfl
@[simp] theorem replyOn_desk_desk (s : State) (k : Byte) (bs : List Byte) :
    (s.replyOn .desk k bs).desk = s.desk.replyWith bs := rfl
@[simp] theorem replyOn_desk_link (s : State) (k : Byte) (bs : List Byte) : (s.replyOn .desk k bs).link = s.link := rfl
@[simp] theorem replyOn_link_link (s : State) (k : Byte) (bs : List Byte) :
    (s.replyOn .link k bs).link = s.link.replyWith k bs := rfl
@[simp] theorem replyOn_link_desk (s : State) (k : Byte) (bs : List Byte) : (s.replyOn .link k bs).desk = s.desk := rfl

/-! ## Reading what was written -/

@[simp] theorem lane_setLane_same (s : State) (l : LaneId) (x : Lane) : (s.setLane l x).lane l = x := by
  simp [lane]

theorem lane_setLane (s : State) (l m : LaneId) (x : Lane) : (s.setLane l x).lane m = if m = l then x else s.lane m := by
  by_cases h : m = l
  · subst h; simp
  · have h' : (l : Nat) ≠ (m : Nat) := fun e => h (Fin.ext e.symm)
    simp [lane, h, h']

@[simp] theorem lane_setLane_other (s : State) {l m : LaneId} (x : Lane) (h : m ≠ l) : (s.setLane l x).lane m = s.lane m := by
  simp [lane_setLane, h]

@[simp] theorem lane_modLane_same (s : State) (l : LaneId) (f : Lane → Lane) : (s.modLane l f).lane l = f (s.lane l) :=
  lane_setLane_same ..

theorem lane_modLane (s : State) (l m : LaneId) (f : Lane → Lane) :
    (s.modLane l f).lane m = if m = l then f (s.lane l) else s.lane m := lane_setLane ..

@[simp] theorem lane_modLane_other (s : State) {l m : LaneId} (f : Lane → Lane) (h : m ≠ l) :
    (s.modLane l f).lane m = s.lane m := lane_setLane_other s _ h

theorem lane_modHead (s : State) (l m : LaneId) (h : HeadPos) (f : HeadUnit → HeadUnit) :
    (s.modHead l h f).lane m = if m = l then (s.lane l).setHead h (f ((s.lane l).head h)) else s.lane m := lane_modLane ..

theorem lane_modCounts (s : State) (l m : LaneId) (f : LaneCounts → LaneCounts) :
    (s.modCounts l f).lane m = if m = l then { s.lane l with counts := f (s.lane l).counts } else s.lane m := lane_modLane ..

theorem lane_setFlight (s : State) (l m : LaneId) (f : Flight) :
    (s.setFlight l f).lane m = if m = l then { s.lane l with flight := f } else s.lane m := lane_modLane ..

@[simp] theorem lane_setBand (s : State) (g : GroupId) (a : BandArbiter) (l : LaneId) : (s.setBand g a).lane l = s.lane l := rfl
@[simp] theorem lane_raise (s : State) (n : Notice) (l : LaneId) : (s.raise n).lane l = s.lane l := rfl
@[simp] theorem arbiter_modLane (s : State) (l : LaneId) (f : Lane → Lane) (g : GroupId) :
    (s.modLane l f).arbiter g = s.arbiter g := rfl
@[simp] theorem arbiter_raise (s : State) (n : Notice) (g : GroupId) : (s.raise n).arbiter g = s.arbiter g := rfl

theorem arbiter_setBand (s : State) (g k : GroupId) (a : BandArbiter) :
    (s.setBand g a).arbiter k = if k = g then a else s.arbiter k := by
  by_cases h : k = g
  · subst h; simp [arbiter]
  · have h' : (g : Nat) ≠ (k : Nat) := fun e => h (Fin.ext e.symm)
    simp [arbiter, h, h']

theorem pendingCount_setPendingCount (s : State) (a b : Source) (n : Nat) :
    (s.setPendingCount a n).pendingCount b = if b.index = a.index then n else s.pendingCount b := by
  by_cases h : b.index = a.index
  · simp [pendingCount, h]
  · have h' : (a.index : Nat) ≠ (b.index : Nat) := fun e => h (Fin.ext e.symm)
    simp [pendingCount, h, h']

end Sys2Proof.Machine.State
end

