-- ==== Sys2Proof/Laws/Frames.lean ====
section
/-! SUPPORT. What each shared operation leaves unchanged: one lemma for each, in the terms of the frames of Safety. -/

namespace Sys2Proof.Machine

/-! ## The frames compose -/

theorem LanesOnly.refl (s : State) : LanesOnly s s := rfl

theorem LanesOnly.trans {s t u : State} (h₁ : LanesOnly s t) (h₂ : LanesOnly t u) : LanesOnly s u := by
  unfold LanesOnly at *
  rw [h₁] at h₂
  exact h₂

theorem JudgingOnly.refl (s : State) : JudgingOnly s s := rfl

theorem JudgingOnly.trans {s t u : State} (h₁ : JudgingOnly s t) (h₂ : JudgingOnly t u) : JudgingOnly s u := by
  unfold JudgingOnly at *
  rw [h₁] at h₂
  exact h₂

theorem ClaimOnly.refl (s : State) : ClaimOnly s s := rfl

theorem ClaimOnly.trans {s t u : State} (h₁ : ClaimOnly s t) (h₂ : ClaimOnly t u) : ClaimOnly s u := by
  unfold ClaimOnly at *
  rw [h₁] at h₂
  exact h₂

theorem PortsOnly.refl (s : State) : PortsOnly s s := rfl

theorem PortsOnly.trans {s t u : State} (h₁ : PortsOnly s t) (h₂ : PortsOnly t u) : PortsOnly s u := by
  unfold PortsOnly at *
  rw [h₁] at h₂
  exact h₂

/-- What changes lanes alone is part of what judging changes. -/
theorem LanesOnly.judging {s t : State} (h : LanesOnly s t) : JudgingOnly s t := by
  unfold LanesOnly at h
  unfold JudgingOnly
  rw [h]

/-- What changes the request ports alone is part of what a claim changes. -/
theorem PortsOnly.claim {s t : State} (h : PortsOnly s t) : ClaimOnly s t := by
  unfold PortsOnly at h
  unfold ClaimOnly
  rw [h]

namespace State

/-! ## Sweepers and arbiters -/

theorem lanesOnly_modLane (s : State) (l : LaneId) (f : Lane → Lane) : LanesOnly s (s.modLane l f) := rfl
theorem lanesOnly_modHead (s : State) (l : LaneId) (h : HeadPos) (f : HeadUnit → HeadUnit) : LanesOnly s (s.modHead l h f) := rfl
theorem lanesOnly_modCounts (s : State) (l : LaneId) (f : LaneCounts → LaneCounts) : LanesOnly s (s.modCounts l f) := rfl
theorem lanesOnly_setBand (s : State) (g : GroupId) (a : BandArbiter) : LanesOnly s (s.setBand g a) := rfl
theorem lanesOnly_raise (s : State) (n : Notice) : LanesOnly s (s.raise n) := rfl
theorem lanesOnly_setFlight (s : State) (l : LaneId) (f : Flight) : LanesOnly s (s.setFlight l f) := rfl
theorem lanesOnly_sendTo (s : State) (l : LaneId) (h : HeadPos) (c : BitVec 8 → HeadCommand) : LanesOnly s (s.sendTo l h c) := rfl
theorem lanesOnly_deliver (s : State) (l : LaneId) (r : CycleReport) : LanesOnly s (s.deliver l r) := rfl

theorem lanesOnly_countHalf (s : State) (l : LaneId) (x : Half) : LanesOnly s (s.countHalf l x) := by
  unfold countHalf
  split <;> rfl

theorem lanesOnly_startCycle (s : State) (l : LaneId) : LanesOnly s (s.startCycle l) := by
  unfold startCycle
  dsimp only
  split <;> rfl

theorem lanesOnly_roundStart (s : State) (l : LaneId) : LanesOnly s (s.roundStart l) := by
  unfold roundStart
  dsimp only
  split
  · exact LanesOnly.trans (lanesOnly_setBand ..) (lanesOnly_startCycle ..)
  · split
    · rfl
    · exact LanesOnly.trans (LanesOnly.trans (LanesOnly.trans (lanesOnly_setBand ..) (lanesOnly_countHalf ..))
        (lanesOnly_deliver ..)) (lanesOnly_startCycle ..)

theorem lanesOnly_sendProbe (s : State) (l : LaneId) (e : ProbeEntry) : LanesOnly s (s.sendProbe l e) := by
  unfold sendProbe
  dsimp only
  split <;> rfl

theorem lanesOnly_startProbe (s : State) (l : LaneId) : LanesOnly s (s.startProbe l) := by
  unfold startProbe
  dsimp only
  split
  · split
    · exact LanesOnly.refl s
    · exact lanesOnly_sendProbe ..
  · exact LanesOnly.refl s

theorem lanesOnly_beginWork (s : State) (l : LaneId) : LanesOnly s (s.beginWork l) := by
  unfold beginWork
  split
  · exact lanesOnly_roundStart ..
  · exact lanesOnly_startProbe ..

theorem lanesOnly_grant (s : State) (g : GroupId) (l : LaneId) : LanesOnly s (s.grant g l) :=
  LanesOnly.trans (LanesOnly.trans (lanesOnly_setBand ..) (lanesOnly_modLane ..)) (lanesOnly_beginWork ..)

theorem lanesOnly_takeGuardEnd (s : State) (g : GroupId) : LanesOnly s (s.takeGuardEnd g) := by
  unfold takeGuardEnd
  split
  · exact lanesOnly_grant ..
  · exact lanesOnly_setBand ..

theorem lanesOnly_release (s : State) (g : GroupId) : LanesOnly s (s.release g) := by
  unfold release
  dsimp only
  split
  · exact LanesOnly.trans (lanesOnly_setBand ..) (lanesOnly_takeGuardEnd ..)
  · exact lanesOnly_setBand ..

theorem lanesOnly_askBand (s : State) (l : LaneId) : LanesOnly s (s.askBand l) := by
  unfold askBand
  dsimp only
  split
  · exact LanesOnly.refl s
  · split
    · exact lanesOnly_grant ..
    · exact lanesOnly_modLane ..

theorem lanesOnly_giveWay (s : State) (l : LaneId) : LanesOnly s (s.giveWay l) :=
  LanesOnly.trans (LanesOnly.trans (lanesOnly_modLane ..) (lanesOnly_release ..)) (lanesOnly_askBand ..)

theorem lanesOnly_decideNext (s : State) (l : LaneId) : LanesOnly s (s.decideNext l) := by
  unfold decideNext
  dsimp only
  split
  · exact LanesOnly.trans (lanesOnly_modLane ..) (lanesOnly_startProbe ..)
  · split
    · exact lanesOnly_giveWay ..
    · split
      · exact lanesOnly_giveWay ..
      · exact lanesOnly_roundStart ..

theorem lanesOnly_roundEnded (s : State) (l : LaneId) (x : Half) : LanesOnly s (s.roundEnded l x) := by
  unfold roundEnded
  dsimp only
  refine LanesOnly.trans (lanesOnly_countHalf s l x) ?_
  split
  · exact LanesOnly.trans (LanesOnly.trans (lanesOnly_deliver ..) (lanesOnly_setFlight ..)) (lanesOnly_decideNext ..)
  · exact lanesOnly_setFlight ..
  · exact LanesOnly.trans (LanesOnly.trans (lanesOnly_deliver ..) (lanesOnly_setFlight ..)) (lanesOnly_decideNext ..)
  · exact lanesOnly_setFlight ..
  · exact LanesOnly.trans (LanesOnly.trans (lanesOnly_modLane ..) (lanesOnly_setFlight ..)) (lanesOnly_decideNext ..)
  · exact LanesOnly.trans (LanesOnly.trans (lanesOnly_deliver ..) (lanesOnly_setFlight ..)) (lanesOnly_decideNext ..)
  · exact LanesOnly.trans (LanesOnly.trans (lanesOnly_deliver ..) (lanesOnly_setFlight ..)) (lanesOnly_decideNext ..)
  · exact LanesOnly.trans (LanesOnly.trans (lanesOnly_deliver ..) (lanesOnly_setFlight ..)) (lanesOnly_decideNext ..)
  · exact LanesOnly.refl _
  · exact LanesOnly.refl _

theorem lanesOnly_endProbe (s : State) (l : LaneId) (o : ProbeOutcome) : LanesOnly s (s.endProbe l o) := by
  unfold endProbe
  split
  · exact LanesOnly.trans (lanesOnly_modLane ..) (lanesOnly_decideNext ..)
  · exact LanesOnly.refl s

theorem lanesOnly_probeOuter (s : State) (l : LaneId) (b : Bool) : LanesOnly s (s.probeOuter l b) := by
  unfold probeOuter
  split <;> rfl

theorem lanesOnly_probeHeadEnded (s : State) (l : LaneId) (h : HeadPos) (b : Bool) : LanesOnly s (s.probeHeadEnded l h b) := by
  unfold probeHeadEnded
  dsimp only
  split
  · split
    · split
      · rfl
      · exact lanesOnly_endProbe ..
    · exact lanesOnly_probeOuter ..
    · exact lanesOnly_endProbe ..
    · exact lanesOnly_endProbe ..
  · exact LanesOnly.refl s
  · exact LanesOnly.refl s

theorem lanesOnly_probeFound (s : State) (l : LaneId) (h : HeadPos) : LanesOnly s (s.probeFound l h) := by
  unfold probeFound
  exact LanesOnly.trans (lanesOnly_modHead ..) (lanesOnly_endProbe ..)

theorem lanesOnly_probeJoined (s : State) (l : LaneId) : LanesOnly s (s.probeJoined l) := by
  unfold probeJoined
  split
  · split
    · exact LanesOnly.trans (lanesOnly_modLane ..) (lanesOnly_startProbe ..)
    · exact lanesOnly_startProbe ..
    · exact LanesOnly.refl s
  · split
    · exact LanesOnly.refl s
    · exact lanesOnly_askBand ..

theorem lanesOnly_acceptProbe (s : State) (l : LaneId) (e : ProbeEntry) : LanesOnly s (s.acceptProbe l e) :=
  LanesOnly.trans (lanesOnly_modLane ..) (lanesOnly_probeJoined ..)

theorem lanesOnly_releaseIfHeld (s : State) (l : LaneId) : LanesOnly s (s.releaseIfHeld l) := by
  unfold releaseIfHeld
  split
  · exact lanesOnly_release ..
  · exact LanesOnly.refl s

theorem lanesOnly_enterStopped (s : State) (l : LaneId) : LanesOnly s (s.enterStopped l) := by
  unfold enterStopped
  exact LanesOnly.trans (LanesOnly.trans (lanesOnly_modLane ..) (lanesOnly_raise ..)) (lanesOnly_releaseIfHeld ..)

theorem lanesOnly_leaveStarting (s : State) (l : LaneId) : LanesOnly s (s.leaveStarting l) := by
  unfold leaveStarting
  dsimp only
  split
  · exact LanesOnly.refl s
  · split
    · exact LanesOnly.trans (lanesOnly_modLane ..) (lanesOnly_askBand ..)
    · split
      · exact LanesOnly.trans (LanesOnly.trans (lanesOnly_modLane ..) (lanesOnly_raise ..)) (lanesOnly_askBand ..)
      · exact lanesOnly_enterStopped ..

theorem lanesOnly_flightFaulted (s : State) (l : LaneId) (h : HeadPos) : LanesOnly s (s.flightFaulted l h) := by
  unfold flightFaulted
  split
  · exact lanesOnly_roundEnded ..
  · exact lanesOnly_probeHeadEnded ..
  · exact LanesOnly.refl s

theorem lanesOnly_countFaultedRound (s : State) (l : LaneId) (h : HeadPos) : LanesOnly s (s.countFaultedRound l h) := by
  unfold countFaultedRound
  split
  · exact lanesOnly_countHalf ..
  · exact LanesOnly.refl s
  · exact LanesOnly.refl s

theorem lanesOnly_headFaulted (s : State) (l : LaneId) (h : HeadPos) : LanesOnly s (s.headFaulted l h) := by
  unfold headFaulted
  split
  all_goals first
    | exact lanesOnly_leaveStarting ..
    | exact LanesOnly.trans (LanesOnly.trans (lanesOnly_modLane ..) (lanesOnly_raise ..)) (lanesOnly_flightFaulted ..)
    | exact LanesOnly.trans (lanesOnly_countFaultedRound ..) (lanesOnly_enterStopped ..)
    | exact LanesOnly.refl s

theorem lanesOnly_attemptFailed (s : State) (l : LaneId) (h : HeadPos) : LanesOnly s (s.attemptFailed l h) := by
  unfold attemptFailed
  dsimp only
  split
  · exact LanesOnly.trans (LanesOnly.trans (lanesOnly_modHead ..) (lanesOnly_modHead ..)) (lanesOnly_headFaulted ..)
  · exact LanesOnly.trans (lanesOnly_modHead ..) (lanesOnly_modHead ..)

theorem lanesOnly_sweeperLeaves (s : State) (l : LaneId) : LanesOnly s (s.sweeperLeaves l) :=
  LanesOnly.trans (lanesOnly_modLane ..) (lanesOnly_releaseIfHeld ..)

theorem lanesOnly_startLane (s : State) (l : LaneId) : LanesOnly s (s.startLane l) := lanesOnly_modLane ..

/-! ## Outputs -/

theorem lanesOnly_driveLane (s : State) (l : LaneId) : LanesOnly s (s.driveLane l) := by
  unfold driveLane
  exact lanesOnly_modLane ..

/-- Driving the outputs of the lanes one after another changes lanes alone. -/
theorem lanesOnly_drive (s : State) : LanesOnly s s.drive := by
  unfold drive
  generalize allLanes = ls
  induction ls generalizing s with
  | nil => exact LanesOnly.refl s
  | cons l ls ih => exact LanesOnly.trans (lanesOnly_driveLane s l) (ih _)

/-- Driving one lane's outputs leaves the rest of every lane. -/
theorem driveLane_lane (s : State) (l m : LaneId) : OutputsOnly (s.lane m) ((s.driveLane l).lane m) := by
  unfold driveLane
  dsimp only
  rw [lane_modLane]
  split
  next h => subst h; rfl
  · rfl

/-- Driving the outputs changes of each lane its sounder line and its lamp alone. -/
theorem drive_lane (s : State) (m : LaneId) : OutputsOnly (s.lane m) (s.drive.lane m) := by
  unfold drive
  generalize allLanes = ls
  induction ls generalizing s with
  | nil => rfl
  | cons l ls ih =>
    have h₁ := driveLane_lane s l m
    have h₂ := ih (s.driveLane l)
    simp only [List.foldl_cons]
    unfold OutputsOnly at *
    rw [h₁] at h₂
    exact h₂

/-! ## The judgement unit -/

theorem judgingOnly_modJudgement (s : State) (i : Item) (f : Judgement → Judgement) : JudgingOnly s (s.modJudgement i f) := rfl
theorem judgingOnly_addJudgement (s : State) (j : Judgement) : JudgingOnly s (s.addJudgement j) := rfl
theorem judgingOnly_returnVerdict (s : State) (l : LaneId) (i : Item) (v : Verdict) : JudgingOnly s (s.returnVerdict l i v) := rfl
theorem judgingOnly_setRecords (s : State) (rs : List AlarmRecord) : JudgingOnly s (s.setRecords rs) := rfl

theorem judgingOnly_offerJudge (s : State) : JudgingOnly s s.offerJudge := by
  unfold offerJudge
  split
  · split <;> rfl
  · exact JudgingOnly.refl s

theorem judgingOnly_joinAsking (s : State) (i : Item) : JudgingOnly s (s.joinAsking i) :=
  JudgingOnly.trans (t := { s with judge := { s.judge with asking := s.judge.asking ++ [i] } }) rfl (judgingOnly_offerJudge _)

theorem judgingOnly_makeLogRoom (s : State) : JudgingOnly s s.makeLogRoom := by
  unfold makeLogRoom
  split
  · exact JudgingOnly.refl s
  · split <;> rfl

theorem judgingOnly_raiseAlarm (s : State) (a : Raising) : JudgingOnly s (s.raiseAlarm a) :=
  JudgingOnly.trans (judgingOnly_makeLogRoom s) rfl

theorem judgingOnly_giveAlarm (s : State) (j : Judgement) (b : Bool) : JudgingOnly s (s.giveAlarm j b) :=
  JudgingOnly.trans (judgingOnly_raiseAlarm s _) rfl

theorem judgingOnly_giveStray (s : State) (j : Judgement) : JudgingOnly s (s.giveStray j) := rfl
theorem judgingOnly_givePass (s : State) (j : Judgement) : JudgingOnly s (s.givePass j) := rfl
theorem judgingOnly_giveShadow (s : State) (l : LaneId) (i : Item) : JudgingOnly s (s.giveShadow l i) := rfl
theorem judgingOnly_ignoreProbe (s : State) (l : LaneId) (i : Item) : JudgingOnly s (s.ignoreProbe l i) := rfl

theorem judgingOnly_verify (s : State) (i : Item) : JudgingOnly s (s.verify i) := by
  unfold verify
  split
  · exact JudgingOnly.refl s
  · split
    · exact JudgingOnly.trans (JudgingOnly.trans (judgingOnly_modJudgement ..) (lanesOnly_modLane ..).judging)
        (lanesOnly_acceptProbe ..).judging
    · exact judgingOnly_giveAlarm ..

theorem judgingOnly_removeJudgements (s : State) (test : Judgement → Bool) : JudgingOnly s (s.removeJudgements test) := by
  unfold removeJudgements
  refine JudgingOnly.trans ?_ (judgingOnly_offerJudge _)
  rfl

theorem judgingOnly_judgementsLeave (s : State) (l : LaneId) : JudgingOnly s (s.judgementsLeave l) :=
  JudgingOnly.trans (lanesOnly_modLane s l _).judging (judgingOnly_removeJudgements ..)

theorem judgingOnly_leaveService (s : State) (l : LaneId) : JudgingOnly s (s.leaveService l) :=
  JudgingOnly.trans (lanesOnly_sweeperLeaves ..).judging (judgingOnly_judgementsLeave ..)

theorem judgingOnly_restartLane (s : State) (l : LaneId) : JudgingOnly s (s.restartLane l) := by
  unfold restartLane
  split
  · exact (lanesOnly_startLane ..).judging
  · exact JudgingOnly.trans (judgingOnly_leaveService ..) (lanesOnly_startLane ..).judging

theorem judgingOnly_disableLane (s : State) (l : LaneId) : JudgingOnly s (s.disableLane l) := by
  unfold disableLane
  split
  · exact JudgingOnly.refl s
  · exact JudgingOnly.trans (judgingOnly_leaveService ..) (lanesOnly_modLane ..).judging

/-! ## Claims -/

theorem claimOnly_putEntry (s : State) (e : Entry) : ClaimOnly s (s.putEntry e) := rfl
theorem claimOnly_dropEntry (s : State) (i : Item) : ClaimOnly s (s.dropEntry i) := rfl
theorem claimOnly_raise (s : State) (n : Notice) : ClaimOnly s (s.raise n) := rfl
theorem claimOnly_settleRecord (s : State) (n : BitVec 16) : ClaimOnly s (s.settleRecord n) := rfl
theorem claimOnly_createPending (s : State) (i : Item) (src : Source) (o : ClaimOptions) :
    ClaimOnly s (s.createPending i src o) := rfl
theorem claimOnly_createCleared (s : State) (i : Item) (src : Source) (o : ClaimOptions) :
    ClaimOnly s (s.createCleared i src o) := rfl
theorem claimOnly_confirmEntry (s : State) (e : Entry) (a : Option Nat) : ClaimOnly s (s.confirmEntry e a) := rfl
theorem claimOnly_renewEntry (s : State) (e : Entry) (o : ClaimOptions) : ClaimOnly s (s.renewEntry e o) := rfl
theorem claimOnly_cancelEntry (s : State) (e : Entry) : ClaimOnly s (s.cancelEntry e) := rfl

theorem claimOnly_makeRoom {s t : State} (h : s.makeRoom = some t) : ClaimOnly s t := by
  unfold makeRoom at h
  split at h
  · cases h; exact ClaimOnly.refl s
  · split at h
    · cases h; rfl
    · cases h

theorem claimOnly_create (s : State) (c : Code) (add : State → State) (h : ∀ t, ClaimOnly t (add t)) :
    ClaimOnly s (s.create c add).1 := by
  unfold create
  split
  next t ht => exact ClaimOnly.trans (claimOnly_makeRoom ht) (h t)
  · exact claimOnly_raise ..

theorem claimOnly_settleAbsent (s : State) (i : Item) (src : Source) (o : ClaimOptions) (r : AlarmRecord) :
    ClaimOnly s (s.settleAbsent i src o r).1 := by
  unfold settleAbsent
  split
  · rfl
  · exact claimOnly_create _ _ _ fun t => rfl

theorem claimOnly_settlePending (s : State) (e : Entry) (a : Option Nat) (r : AlarmRecord) :
    ClaimOnly s (s.settlePending e a r) := by
  unfold settlePending
  dsimp only
  split <;> rfl

theorem claimOnly_expireEntry (s : State) (e : Entry) : ClaimOnly s (s.expireEntry e) := by
  unfold expireEntry
  dsimp only
  split <;> rfl

/-- The claim of an item of any kind changes what a claim may change. -/
theorem claimOnly_itemClaim (s : State) (k : ItemKind) (i : Item) (src : Source) (o : ClaimOptions) :
    ClaimOnly s (s.itemClaim k i src o).1 := by
  cases k
  case hold =>
    simp only [itemClaim, holdClaim]
    repeat' split
    all_goals first
      | exact ClaimOnly.refl s
      | exact claimOnly_create _ _ _ fun t => rfl
      | rfl
  case issue =>
    simp only [itemClaim, issueClaim]
    repeat' split
    all_goals first
      | exact ClaimOnly.refl s
      | exact claimOnly_settleAbsent ..
      | exact claimOnly_create _ _ _ fun t => rfl
      | exact claimOnly_settlePending ..
      | rfl
  case confirm =>
    simp only [itemClaim, confirmClaim]
    repeat' split
    all_goals first
      | exact ClaimOnly.refl s
      | exact claimOnly_settleAbsent ..
      | exact claimOnly_settlePending ..
      | rfl
  case cancel =>
    simp only [itemClaim, cancelClaim]
    repeat' split
    all_goals rfl
  case discharge =>
    simp only [itemClaim, dischargeClaim]
    repeat' split
    all_goals rfl
  case query => rfl
  case load =>
    simp only [itemClaim, loadClaim]
    repeat' split
    all_goals first
      | exact claimOnly_create _ _ _ fun t => rfl
      | rfl

/-! ## Working a request -/

theorem portsOnly_setPort (s : State) (p : TablePort) : PortsOnly s (s.setPort p) := rfl

theorem portsOnly_setWork (s : State) (p : PortId) (w : Work) : PortsOnly s (s.setWork p w) := by cases p <;> rfl

theorem portsOnly_replyOn (s : State) (p : PortId) (k : Byte) (bs : List Byte) : PortsOnly s (s.replyOn p k bs) := by
  cases p <;> rfl

theorem portsOnly_offerClaim (s : State) (p : PortId) (c : Claim) : PortsOnly s (s.offerClaim p c) := by
  unfold offerClaim
  split
  · rfl
  · split <;> rfl

theorem portsOnly_workItems (s : State) (p : PortId) (k : ItemKind) (src : Source) (o : ClaimOptions) (xs : List RawItem)
    (rs : List ItemResult) : PortsOnly s (s.workItems p k src o xs rs) := by
  induction xs generalizing rs with
  | nil => exact portsOnly_replyOn ..
  | cons x xs ih =>
    unfold workItems
    split
    · exact ih _
    · exact PortsOnly.trans (portsOnly_offerClaim ..) (portsOnly_setWork ..)

theorem portsOnly_takeFrom (s : State) (p : PortId) : PortsOnly s (s.takeFrom p) := by cases p <;> rfl

end State

end Sys2Proof.Machine
end

