-- ==== Sys2Proof/Laws/Alarms.lean ====
section
/-! SUPPORT. What a raising does to the alarm log: the number it finds, the room it makes, and the whole of it. -/

namespace Sys2Proof.Machine

/-- The search for a number passes over numbers that records hold, and ends at one that none holds or at the end of its fuel. -/
theorem freeNumber_spec (records : List AlarmRecord) (fuel : Nat) (n : BitVec 16) :
    ∃ k ≤ fuel, freeNumber records fuel n = n + BitVec.ofNat 16 k
      ∧ (∀ i < k, ∃ r ∈ records, r.number = n + BitVec.ofNat 16 i)
      ∧ (k < fuel → ∀ r ∈ records, r.number ≠ freeNumber records fuel n) := by
  induction fuel generalizing n with
  | zero => exact ⟨0, Nat.le_refl 0, by simp [freeNumber], by simp, by simp⟩
  | succ fuel ih =>
    unfold freeNumber
    split
    next held =>
      obtain ⟨k, hk, he, hh, hf⟩ := ih (n + 1)
      refine ⟨k + 1, by omega, ?_, ?_, fun h => hf (by omega)⟩
      · rw [he, BitVec.ofNat_add, BitVec.add_assoc, BitVec.add_comm 1]
        rfl
      · intro i hi
        rcases i with _ | i
        · obtain ⟨r, hr, hn⟩ := List.any_eq_true.mp held
          exact ⟨r, hr, by simpa using hn⟩
        · obtain ⟨r, hr, hn⟩ := hh i (by omega)
          refine ⟨r, hr, ?_⟩
          rw [hn, BitVec.ofNat_add, BitVec.add_assoc, BitVec.add_comm 1]
          rfl
    next free =>
      refine ⟨0, by omega, by simp, by simp, fun _ r hr h => free ?_⟩
      exact List.any_eq_true.mpr ⟨r, hr, by simpa using h⟩

/-- With fewer records than fuel, a number that no record holds is found: the first one from the counter upward. -/
theorem freeNumber_free {records : List AlarmRecord} {fuel : Nat} (n : BitVec 16) (room : records.length < fuel)
    (small : fuel ≤ 65536) :
    (∀ r ∈ records, r.number ≠ freeNumber records fuel n)
      ∧ ∃ k < fuel, freeNumber records fuel n = n + BitVec.ofNat 16 k
          ∧ ∀ i < k, ∃ r ∈ records, r.number = n + BitVec.ofNat 16 i := by
  obtain ⟨k, hk, he, hh, hf⟩ := freeNumber_spec records fuel n
  rcases Nat.lt_or_ge k fuel with h | h
  · exact ⟨hf h, k, h, he, hh⟩
  · exfalso
    have sub : (List.range k).map (fun i => n + BitVec.ofNat 16 i) ⊆ records.map AlarmRecord.number := by
      intro x hx
      obtain ⟨i, hi, rfl⟩ := List.mem_map.mp hx
      obtain ⟨r, hr, hn⟩ := hh i (List.mem_range.mp hi)
      exact List.mem_map.mpr ⟨r, hr, hn⟩
    have distinct : ((List.range k).map fun i => n + BitVec.ofNat 16 i).Nodup := by
      refine List.Nodup.map_on ?_ List.nodup_range
      intro i hi j hj hij
      have hi' := List.mem_range.mp hi
      have hj' := List.mem_range.mp hj
      have := congrArg BitVec.toNat (BitVec.add_right_inj n |>.mp hij)
      simp only [BitVec.toNat_ofNat] at this
      omega
    have := (List.subperm_of_subset distinct sub).length_le
    simp only [List.length_map, List.length_range] at this
    omega

/-- The first record that satisfies a test is the one dropped. -/
theorem dropFirst_append {test : AlarmRecord → Bool} {older newer : List AlarmRecord} {v : AlarmRecord}
    (none : ∀ r ∈ older, test r = false) (this : test v = true) : dropFirst test (older ++ v :: newer) = older ++ newer := by
  induction older with
  | nil => simp [dropFirst, this]
  | cons r rs ih =>
    have := ih fun x hx => none x (List.mem_cons_of_mem r hx)
    simp [dropFirst, none r List.mem_cons_self, this]

theorem dropFirst_length {test : AlarmRecord → Bool} {rs : List AlarmRecord} (some : rs.any test = true) :
    (dropFirst test rs).length + 1 = rs.length := by
  induction rs with
  | nil => simp at some
  | cons r rs ih =>
    unfold dropFirst
    split
    · rfl
    next h =>
      have : rs.any test = true := by simpa [h] using some
      simp [ih this]

namespace State

/-- The room made for a record: which records are kept, what the overwrites counter and the notices become, and that nothing else
changes. -/
theorem makeLogRoom_spec (s : State) :
    let before := s.log.records
    let full := 64 ≤ before.length
    let allOpen := ∀ r ∈ before, r.state = .opened
    ∃ kept, s.makeLogRoom.log = { records := kept, counter := s.log.counter
                                  overwrites := if full ∧ allOpen then s.log.overwrites + 1 else s.log.overwrites }
      ∧ (¬ full → kept = before) ∧ (full → allOpen → kept = before.drop 1)
      ∧ (full → ∀ older v newer, before = older ++ v :: newer → v.state ≠ .opened → (∀ r ∈ older, r.state = .opened) →
          kept = older ++ newer)
      ∧ (before.length ≤ 64 → kept.length < 64)
      ∧ s.makeLogRoom.link.notices = { s.link.notices with logOverwrite := decide (full ∧ allOpen) || s.link.notices.logOverwrite }
      ∧ s.makeLogRoom.lanes = s.lanes ∧ s.makeLogRoom.hallTime = s.hallTime := by
  intro before full allOpen
  by_cases hf : full
  · have hfull : ¬ s.log.records.length < Config.logCapacity := Nat.not_lt.mpr hf
    by_cases ho : allOpen
    · have room : s.makeLogRoom = ({ s with log := { s.log with
          records := s.log.records.drop 1, overwrites := s.log.overwrites + 1 } } : State).raise .logOverwrite := by
        have e : (s.log.records.any fun r => r.state != .opened) = false := by simpa using ho
        unfold makeLogRoom
        rw [if_neg hfull, e]
        rfl
      refine ⟨before.drop 1, ?_, fun h => absurd hf h, fun _ _ => rfl, ?_, ?_, ?_, ?_, ?_⟩
      · rw [room, if_pos ⟨hf, ho⟩]; rfl
      · intro _ older v newer e hv _
        exact absurd (ho v (by simp [e])) hv
      · intro _; simp only [List.length_drop]; omega
      · rw [room, decide_eq_true ⟨hf, ho⟩]; rfl
      · rw [room]; rfl
      · rw [room]; rfl
    · have e : (s.log.records.any fun r => r.state != .opened) = true := by
        simp only [allOpen, not_forall] at ho
        obtain ⟨r, hr, hs⟩ := ho
        exact List.any_eq_true.mpr ⟨r, hr, by simpa using hs⟩
      have room : s.makeLogRoom = s.setRecords (dropFirst (fun r => r.state != .opened) s.log.records) := by
        unfold makeLogRoom
        rw [if_neg hfull, if_pos e]
      have none : ¬ (full ∧ allOpen) := fun h => ho h.2
      refine ⟨dropFirst (fun r => r.state != .opened) before, ?_, fun h => absurd hf h, fun _ h => absurd h ho, ?_, ?_, ?_, ?_, ?_⟩
      · rw [room, if_neg none]; rfl
      · intro _ older v newer h hv opened
        rw [h]
        exact dropFirst_append (fun r hr => by simp [opened r hr]) (by simpa using hv)
      · intro bound
        have := dropFirst_length e
        simp only [before] at bound ⊢
        omega
      · rw [room, decide_eq_false none]; rfl
      · rw [room]; rfl
      · rw [room]; rfl
  · have room : s.makeLogRoom = s := by
      unfold makeLogRoom
      exact if_pos (show s.log.records.length < Config.logCapacity from Nat.lt_of_not_le hf)
    have none : ¬ (full ∧ allOpen) := fun h => hf h.1
    refine ⟨before, ?_, fun _ => rfl, fun h => absurd h hf, fun h => absurd h hf, fun _ => Nat.lt_of_not_le hf, ?_, ?_, ?_⟩
    · rw [room, if_neg none]
    · rw [room, decide_eq_false none]; rfl
    · rw [room]
    · rw [room]

/-- A raising makes its record in the log as 08 R152 and R153 lay down. -/
theorem raiseAlarm_raised (s : State) (a : Raising) :
    ∃ r, Raised s (s.raiseAlarm a) r ∧ r.number = s.makeLogRoom.nextNumber ∧ r.lane = a.lane ∧ r.item = a.item ∧ r.raw = a.raw
      ∧ r.cls = a.cls ∧ r.unverified = a.unverified := by
  refine ⟨{ number := s.makeLogRoom.nextNumber, lane := a.lane, item := a.item, raw := a.raw, cls := a.cls,
            unverified := a.unverified, raised := s.hallTime,
            soundingEnd := s.hallTime + seconds (s.lane a.lane).settings.soundingTime, state := .opened, closedAt := none,
            closedBy := none }, ?_, rfl, rfl, rfl, rfl, rfl, rfl⟩
  obtain ⟨kept, hlog, h₁, h₂, h₃, hsize, hnotices, -, -⟩ := makeLogRoom_spec s
  have hrecords : s.makeLogRoom.log.records = kept := by rw [hlog]
  have hcounter : s.makeLogRoom.log.counter = s.log.counter := by rw [hlog]
  refine ⟨kept, ?_, h₁, h₂, h₃, ?_, rfl, rfl, rfl, rfl, rfl, ?_, rfl⟩
  · unfold raiseAlarm
    simp only [raise_log, hrecords]
    rw [hlog]
  · intro bound
    have := freeNumber_free (fuel := 64) s.log.counter (hsize bound) (by omega)
    unfold nextNumber
    rw [hrecords, hcounter]
    exact this
  · have : (s.raiseAlarm a).link.notices = { s.makeLogRoom.link.notices with alarm := true } := rfl
    rw [this, hnotices]

end State

end Sys2Proof.Machine
end

