-- ==== Sys2Proof/Laws/Band.lean ====
section
/-! SUPPORT. What sending makes of a head, what beginning work and granting the band make of a lane and its arbiter, and what a
probe result holds: one lemma for each operation, which a proof cites instead of unfolding it. -/

namespace Sys2Proof.Machine

/-! ## Probe results -/

@[simp] theorem ProbeEntry.result_code (o : ProbeOutcome) (r : Option AwaitedProbe) (e : ProbeEntry) : (e.result o r).code = e.code := rfl
@[simp] theorem ProbeEntry.result_item (o : ProbeOutcome) (r : Option AwaitedProbe) (e : ProbeEntry) : (e.result o r).item = e.item := rfl
@[simp] theorem ProbeEntry.result_outcome (o : ProbeOutcome) (r : Option AwaitedProbe) (e : ProbeEntry) :
    (e.result o r).outcome = o := rfl
@[simp] theorem ProbeEntry.result_live (o : ProbeOutcome) (r : Option AwaitedProbe) (e : ProbeEntry) :
    (e.result o r).live = (r.map AwaitedProbe.live).getD false := rfl

/-! ## Messages sent to a head -/

/-- A message put on a pair follows the ABORT that is owed there, and nothing else of the head changes. -/
theorem HeadUnit.put_eq (m : HeadCommand) (u : HeadUnit) :
    u.put m = { u with abortOwed := false, sent := u.sent ++ (if u.abortOwed then [.abort u.seq] else []) ++ [m] } := by
  unfold put sendOwed
  split
  · rfl
  next h => simp [Bool.eq_false_iff.mpr h]

/-- A head to which a numbered command has been sent. -/
theorem HeadUnit.send_eq (now : Time) (command : BitVec 8 → HeadCommand) (u : HeadUnit) :
    u.send now command =
      { u with state := .busy, seq := u.seq + 1, abortOwed := false
               outstanding := some { command := command (u.seq + 1), sentAt := now }
               sent := u.sent ++ (if u.abortOwed then [.abort u.seq] else []) ++ [command (u.seq + 1)] } := by
  unfold send
  rw [put_eq]

/-- A head to which IDENT has been sent. -/
theorem HeadUnit.ident_eq (now : Time) (u : HeadUnit) :
    u.ident now =
      { u with state := .unknown, failures := 0, outstanding := some { command := .ident, sentAt := now }, abortOwed := false
               sent := u.sent ++ (if u.abortOwed then [.abort u.seq] else []) ++ [.ident] } := by
  unfold ident
  rw [put_eq]

/-! ## The work of a lane -/

theorem Lane.form_eq_nextForm (x : Lane) : x.form = x.nextForm := by
  unfold Lane.form Lane.nextForm Lane.workingHead
  rcases x.state <;> rcases x.settings.sweepMode <;> simp

theorem Lane.abortWaits_iff (x : Lane) :
    x.abortWaits = true ↔ x.inner.working ∧ x.inner.abortOwed ∨ x.outer.working ∧ x.outer.abortOwed := by
  simp [Lane.abortWaits]

namespace State

/-- A probe is accepted exactly by a lane IN_SERVICE or SINGLE whose queue holds fewer than four entries. -/
theorem acceptsProbe_iff (s : State) (l : LaneId) :
    s.acceptsProbe l = true ↔ (s.lane l).state.hasWork = true ∧ (s.lane l).probes.length < 4 := by
  unfold acceptsProbe
  rw [Bool.and_eq_true, decide_eq_true_eq]
  rfl

/-- The first round start of a cycle begins it, and changes nothing else of the lane. -/
theorem lane_startCycle (s : State) (l : LaneId) : (s.startCycle l).lane l = (s.lane l).newCycle s.hallTime := by
  unfold startCycle Lane.newCycle Lane.commanded
  dsimp only
  rw [Lane.form_eq_nextForm]
  rcases (s.lane l).nextForm with _ | _ | w
  · simp [sendTo, modHead, setFlight, Lane.setHead, Lane.head, HeadUnit.send_eq]
  · simp [sendTo, modHead, setFlight, Lane.setHead, Lane.head, HeadUnit.send_eq]
  · cases w <;> simp [sendTo, modHead, setFlight, Lane.setHead, Lane.head, HeadUnit.send_eq]

/-- A probe's start sends PROBE to the heads of the lane's form and changes nothing else of it. -/
theorem lane_sendProbe (s : State) (l : LaneId) (e : ProbeEntry) :
    (s.sendProbe l e).lane l =
      { (s.lane l).commanded s.hallTime (s.lane l).nextForm fun q => .probe q e.code with
          flight := .probe (s.lane l).nextForm false } := by
  unfold sendProbe Lane.commanded
  dsimp only
  rw [Lane.form_eq_nextForm]
  rcases (s.lane l).nextForm with _ | _ | w
  · simp [sendTo, modHead, setFlight, Lane.setHead, Lane.head, HeadUnit.send_eq]
  · simp [sendTo, modHead, setFlight, Lane.setHead, Lane.head, HeadUnit.send_eq]
  · cases w <;> simp [sendTo, modHead, setFlight, Lane.setHead, Lane.head, HeadUnit.send_eq]

/-- The holder's next round start, new or resumed. -/
theorem lane_roundStart (s : State) (l : LaneId) : (s.roundStart l).lane l = (s.lane l).roundStarted s.hallTime := by
  unfold roundStart Lane.roundStarted
  dsimp only
  rw [lane_setBand]
  rcases hb : (s.lane l).buffer with _ | half
  · rw [lane_startCycle]
    rfl
  · dsimp only
    rcases hw : (s.lane l).outer.working
    · simp [lane_startCycle, countHalf, lossyHalf, deliver, modCounts]
    · simp [hb, sendTo, modHead, setFlight, Lane.setHead, Lane.head, HeadUnit.send_eq, Lane.commanded]
      rfl

/-- A probe's start, or its wait. -/
theorem lane_startProbe (s : State) (l : LaneId) (h : (s.lane l).probes ≠ []) :
    (s.startProbe l).lane l = (s.lane l).begun s.hallTime := by
  unfold startProbe Lane.begun
  dsimp only
  rcases hp : (s.lane l).probes with _ | ⟨e, queue⟩
  · exact absurd hp h
  · dsimp only
    rcases hf : (s.lane l).flight with _ | _ | _
    · simp only [true_and, ← Lane.abortWaits_iff]
      rcases hw : (s.lane l).abortWaits
      · simp [lane_sendProbe]
      · simp
    · simp
    · simp

/-- A holder begins its work. -/
theorem lane_beginWork (s : State) (l : LaneId) : (s.beginWork l).lane l = (s.lane l).begun s.hallTime := by
  unfold beginWork
  rcases hp : (s.lane l).probes with _ | ⟨e, queue⟩
  · simp [lane_roundStart, Lane.begun, hp]
  · simp [lane_startProbe s l (by simp [hp])]

/-- A lane that is granted the band has its ask cleared and has begun its work. -/
theorem lane_grant (s : State) (g : GroupId) (l : LaneId) :
    (s.grant g l).lane l = ({ s.lane l with ask := false } : Lane).begun s.hallTime := by
  unfold grant
  rw [lane_beginWork, lane_modLane_same]
  rfl

/-! ## The holder's decision -/

theorem otherAsks_iff (s : State) (l : LaneId) :
    s.otherAsks l = true ↔ ∃ m, m ≠ l ∧ (s.lane m).ask = true ∧ s.groupOf m = s.groupOf l := by
  have every : ∀ m : LaneId, m ∈ allLanes := by decide
  simp [otherAsks, asks, every]

theorem otherAsksUrgently_iff (s : State) (l : LaneId) :
    s.otherAsksUrgently l = true ↔
      ∃ m, (m ≠ l ∧ (s.lane m).ask = true ∧ s.groupOf m = s.groupOf l) ∧ (s.lane m).probes ≠ [] := by
  have every : ∀ m : LaneId, m ∈ allLanes := by decide
  simp [otherAsksUrgently, asksUrgently, asks, every, and_assoc]

/-- A holder with a probe queued runs it, and its cycle is broken. -/
theorem decideNext_probes {s : State} {l : LaneId} (queued : (s.lane l).probes ≠ []) :
    s.decideNext l = (s.modLane l Lane.breakCycle).startProbe l := by
  unfold decideNext
  dsimp only
  rw [if_pos (by simp [queued])]

/-- A holder with no probe queued that need not give way makes its next round start. -/
theorem decideNext_keeps {s : State} {l : LaneId} (empty : (s.lane l).probes = []) (calm : s.otherAsksUrgently l = false)
    (left : ¬ ((s.lane l).settings.tenure ≤ (s.arbiter (s.groupOf l)).tenureCount ∧ s.otherAsks l = true)) :
    s.decideNext l = s.roundStart l := by
  unfold decideNext
  dsimp only
  rw [if_neg (by simp [empty]), if_neg (by simp [calm]), if_neg (by simpa using left)]

/-- A holder with no probe queued gives way to an urgent ask, and to any once its tenure is used up. -/
theorem decideNext_gives_way {s : State} {l : LaneId} (empty : (s.lane l).probes = [])
    (asked : s.otherAsksUrgently l = true
      ∨ (s.lane l).settings.tenure ≤ (s.arbiter (s.groupOf l)).tenureCount ∧ s.otherAsks l = true) :
    s.decideNext l = s.giveWay l := by
  unfold decideNext
  dsimp only
  rw [if_neg (by simp [empty])]
  split
  · rfl
  next calm => rw [if_pos (by simpa [calm] using asked)]

end State

end Sys2Proof.Machine
end

