-- ==== Sys2Proof/WellFormed.lean ====
section
/-! DEFINITION. The checks on a command's operands that their types do not make.

A grace end is that of a judgement's item, a valid item number (01 R1, 07 R125).
A message of a head link is a run of bytes, so it has at least one (11 R195).
Every other operand takes every value of its type. -/

namespace Sys2Proof

/-- A message is a run of at least one byte (11 R195). -/
def wellFormedMessage (message : List Byte) : Bool := !message.isEmpty

/-- The check of one command. -/
def Instr.wellFormed : Instr → Bool
  | .graceEnd item => validItem item
  | .identReply _ _ message => wellFormedMessage message
  | .roundReport _ _ message => wellFormedMessage message
  | .probeReport _ _ message => wellFormedMessage message
  | .headMessageDiscarded _ _ message => wellFormedMessage message
  | .powerOnReset _ _ | .restart | .hold _ | .issue _ | .confirm _ | .cancel _ | .confirmBatch _ | .cancelBatch _
  | .discharge _ | .query _ | .load | .walk | .clearTable | .standing | .endStanding | .ackLane _ | .restartLane _
  | .setHall | .setWindow | .setRights | .setLane | .enableLane | .disableLane | .readLane | .readStatus | .clearCounts
  | .readAlarms | .ackAlarm | .clearLog | .readNotices | .badRequest _ | .holdClaim | .issueClaim | .confirmClaim
  | .cancelClaim | .confirmBatchClaim | .cancelBatchClaim | .dischargeClaim | .queryClaim | .loadClaim | .walkClaim
  | .clearTableClaim | .judge | .dueTimeReached | .expiryClaim | .standingEnd _ | .soundingEnd _ | .roundTimeout _ _
  | .abort _ _ | .guardEnd _ | .cycleReport _ | .passage _ | .verdict _ | .judgeAnswer | .changeNotice | .probeResult _
  | .passageRemovalReport _ | .deskAddressByte _ _ | .deskWriteByte _ | .deskRepeatedStartWrite _ _ | .deskStopCondition
  | .deskReplyByte | .deskReplyDeclined | .serviceByte _ | .frameTimeout | .replySent => true

end Sys2Proof
end

