-- ==== Sys2Proof/Laws/PerInstr.lean ====
section
/-! SUPPORT. Statements about the commands as syntax, one lemma for each constructor. -/

namespace Sys2Proof.Laws.WellFormed

/-- The message that a command of a head link carries. -/
def message : Instr → Option (List Byte)
  | .identReply _ _ m | .roundReport _ _ m | .probeReport _ _ m | .headMessageDiscarded _ _ m => some m
  | _ => none

/-- A command is ill-formed only where it names an invalid item or carries a message of no bytes. -/
def Statement (i : Instr) : Prop :=
  i.wellFormed = false → message i = some [] ∨ ∃ item, i = .graceEnd item ∧ validItem item = false

theorem powerOnReset (address : BitVec 2) (rate : BitVec 2) : Statement (.powerOnReset address rate) := fun h => Bool.noConfusion (show true = false from h)
theorem restart : Statement (.restart) := fun h => Bool.noConfusion (show true = false from h)
theorem hold (port : PortId) : Statement (.hold port) := fun h => Bool.noConfusion (show true = false from h)
theorem issue (port : PortId) : Statement (.issue port) := fun h => Bool.noConfusion (show true = false from h)
theorem confirm (port : PortId) : Statement (.confirm port) := fun h => Bool.noConfusion (show true = false from h)
theorem cancel (port : PortId) : Statement (.cancel port) := fun h => Bool.noConfusion (show true = false from h)
theorem confirmBatch (port : PortId) : Statement (.confirmBatch port) := fun h => Bool.noConfusion (show true = false from h)
theorem cancelBatch (port : PortId) : Statement (.cancelBatch port) := fun h => Bool.noConfusion (show true = false from h)
theorem discharge (port : PortId) : Statement (.discharge port) := fun h => Bool.noConfusion (show true = false from h)
theorem query (port : PortId) : Statement (.query port) := fun h => Bool.noConfusion (show true = false from h)
theorem load : Statement (.load) := fun h => Bool.noConfusion (show true = false from h)
theorem walk : Statement (.walk) := fun h => Bool.noConfusion (show true = false from h)
theorem clearTable : Statement (.clearTable) := fun h => Bool.noConfusion (show true = false from h)
theorem standing : Statement (.standing) := fun h => Bool.noConfusion (show true = false from h)
theorem endStanding : Statement (.endStanding) := fun h => Bool.noConfusion (show true = false from h)
theorem ackLane (port : PortId) : Statement (.ackLane port) := fun h => Bool.noConfusion (show true = false from h)
theorem restartLane (port : PortId) : Statement (.restartLane port) := fun h => Bool.noConfusion (show true = false from h)
theorem setHall : Statement (.setHall) := fun h => Bool.noConfusion (show true = false from h)
theorem setWindow : Statement (.setWindow) := fun h => Bool.noConfusion (show true = false from h)
theorem setRights : Statement (.setRights) := fun h => Bool.noConfusion (show true = false from h)
theorem setLane : Statement (.setLane) := fun h => Bool.noConfusion (show true = false from h)
theorem enableLane : Statement (.enableLane) := fun h => Bool.noConfusion (show true = false from h)
theorem disableLane : Statement (.disableLane) := fun h => Bool.noConfusion (show true = false from h)
theorem readLane : Statement (.readLane) := fun h => Bool.noConfusion (show true = false from h)
theorem readStatus : Statement (.readStatus) := fun h => Bool.noConfusion (show true = false from h)
theorem clearCounts : Statement (.clearCounts) := fun h => Bool.noConfusion (show true = false from h)
theorem readAlarms : Statement (.readAlarms) := fun h => Bool.noConfusion (show true = false from h)
theorem ackAlarm : Statement (.ackAlarm) := fun h => Bool.noConfusion (show true = false from h)
theorem clearLog : Statement (.clearLog) := fun h => Bool.noConfusion (show true = false from h)
theorem readNotices : Statement (.readNotices) := fun h => Bool.noConfusion (show true = false from h)
theorem badRequest (port : PortId) : Statement (.badRequest port) := fun h => Bool.noConfusion (show true = false from h)
theorem holdClaim : Statement (.holdClaim) := fun h => Bool.noConfusion (show true = false from h)
theorem issueClaim : Statement (.issueClaim) := fun h => Bool.noConfusion (show true = false from h)
theorem confirmClaim : Statement (.confirmClaim) := fun h => Bool.noConfusion (show true = false from h)
theorem cancelClaim : Statement (.cancelClaim) := fun h => Bool.noConfusion (show true = false from h)
theorem confirmBatchClaim : Statement (.confirmBatchClaim) := fun h => Bool.noConfusion (show true = false from h)
theorem cancelBatchClaim : Statement (.cancelBatchClaim) := fun h => Bool.noConfusion (show true = false from h)
theorem dischargeClaim : Statement (.dischargeClaim) := fun h => Bool.noConfusion (show true = false from h)
theorem queryClaim : Statement (.queryClaim) := fun h => Bool.noConfusion (show true = false from h)
theorem loadClaim : Statement (.loadClaim) := fun h => Bool.noConfusion (show true = false from h)
theorem walkClaim : Statement (.walkClaim) := fun h => Bool.noConfusion (show true = false from h)
theorem clearTableClaim : Statement (.clearTableClaim) := fun h => Bool.noConfusion (show true = false from h)
theorem judge : Statement (.judge) := fun h => Bool.noConfusion (show true = false from h)
theorem dueTimeReached : Statement (.dueTimeReached) := fun h => Bool.noConfusion (show true = false from h)
theorem expiryClaim : Statement (.expiryClaim) := fun h => Bool.noConfusion (show true = false from h)
theorem standingEnd (desk : DeskId) : Statement (.standingEnd desk) := fun h => Bool.noConfusion (show true = false from h)
theorem soundingEnd (number : BitVec 16) : Statement (.soundingEnd number) := fun h => Bool.noConfusion (show true = false from h)
theorem identReply (lane : LaneId) (head : HeadPos) (message : List Byte) : Statement (.identReply lane head message) := fun h => .inl (congrArg some (by
    cases message with
    | nil => rfl
    | cons b bs => cases h))
theorem roundReport (lane : LaneId) (head : HeadPos) (message : List Byte) : Statement (.roundReport lane head message) := fun h => .inl (congrArg some (by
    cases message with
    | nil => rfl
    | cons b bs => cases h))
theorem probeReport (lane : LaneId) (head : HeadPos) (message : List Byte) : Statement (.probeReport lane head message) := fun h => .inl (congrArg some (by
    cases message with
    | nil => rfl
    | cons b bs => cases h))
theorem headMessageDiscarded (lane : LaneId) (head : HeadPos) (message : List Byte) : Statement (.headMessageDiscarded lane head message) := fun h => .inl (congrArg some (by
    cases message with
    | nil => rfl
    | cons b bs => cases h))
theorem roundTimeout (lane : LaneId) (head : HeadPos) : Statement (.roundTimeout lane head) := fun h => Bool.noConfusion (show true = false from h)
theorem abort (lane : LaneId) (head : HeadPos) : Statement (.abort lane head) := fun h => Bool.noConfusion (show true = false from h)
theorem guardEnd (group : GroupId) : Statement (.guardEnd group) := fun h => Bool.noConfusion (show true = false from h)
theorem cycleReport (lane : LaneId) : Statement (.cycleReport lane) := fun h => Bool.noConfusion (show true = false from h)
theorem passage (lane : LaneId) : Statement (.passage lane) := fun h => Bool.noConfusion (show true = false from h)
theorem verdict (lane : LaneId) : Statement (.verdict lane) := fun h => Bool.noConfusion (show true = false from h)
theorem judgeAnswer : Statement (.judgeAnswer) := fun h => Bool.noConfusion (show true = false from h)
theorem changeNotice : Statement (.changeNotice) := fun h => Bool.noConfusion (show true = false from h)
theorem graceEnd (item : Item) : Statement (.graceEnd item) := fun h => .inr ⟨item, rfl, h⟩
theorem probeResult (lane : LaneId) : Statement (.probeResult lane) := fun h => Bool.noConfusion (show true = false from h)
theorem passageRemovalReport (lane : LaneId) : Statement (.passageRemovalReport lane) := fun h => Bool.noConfusion (show true = false from h)
theorem deskAddressByte (address : BitVec 7) (direction : Direction) : Statement (.deskAddressByte address direction) := fun h => Bool.noConfusion (show true = false from h)
theorem deskWriteByte (byte : Byte) : Statement (.deskWriteByte byte) := fun h => Bool.noConfusion (show true = false from h)
theorem deskRepeatedStartWrite (address : BitVec 7) (direction : Direction) : Statement (.deskRepeatedStartWrite address direction) := fun h => Bool.noConfusion (show true = false from h)
theorem deskStopCondition : Statement (.deskStopCondition) := fun h => Bool.noConfusion (show true = false from h)
theorem deskReplyByte : Statement (.deskReplyByte) := fun h => Bool.noConfusion (show true = false from h)
theorem deskReplyDeclined : Statement (.deskReplyDeclined) := fun h => Bool.noConfusion (show true = false from h)
theorem serviceByte (byte : Byte) : Statement (.serviceByte byte) := fun h => Bool.noConfusion (show true = false from h)
theorem frameTimeout : Statement (.frameTimeout) := fun h => Bool.noConfusion (show true = false from h)
theorem replySent : Statement (.replySent) := fun h => Bool.noConfusion (show true = false from h)

end Sys2Proof.Laws.WellFormed
end

