-- ==== Sys2Proof/Laws/Ports.lean ====
section
/-! SUPPORT. What the operations of the two ports do, one lemma for each fact that proofs cite. -/

namespace Sys2Proof.Machine

/-! ## The desk bus port -/

theorem DeskPort.replyFormed_iff (d : DeskPort) :
    d.replyFormed = true ↔ d.state = .working ∧ d.work = .idle ∧ d.reply ≠ [] := by
  simp [replyFormed, and_assoc]

theorem DeskPort.holdEnded_of_formed {d : DeskPort} (h : d.replyFormed = true) : d.holdEnded = d.replyWith d.reply := if_pos h

theorem DeskPort.holdEnded_of_state {d : DeskPort} (h : d.state ≠ .working) : d.holdEnded = d :=
  if_neg fun hf => h ((replyFormed_iff d).1 hf).1

/-- Taking, whether or not there is a request: WORKING, the clock held, the buffer empty. -/
theorem DeskPort.take_spec (d : DeskPort) :
    d.take.state = .working ∧ d.take.clockHeld = true ∧ d.take.acked = true ∧ d.take.buffer = [] ∧ d.take.dataOut = 0xFF
      ∧ d.take.address = d.address ∧ d.take.abandoned = d.abandoned := by
  unfold take
  split <;> simp

/-! ## Waiting bytes of the service link -/

/-- Taking a byte leaves the receive buffer alone. -/
theorem LinkPort.takeByte_buffer (p : LinkPort) (now : Time) (x : Byte) (bs : List Byte) :
    ({ p with buffer := bs } : LinkPort).takeByte now x = { p.takeByte now x with buffer := bs } := by
  have bad : ∀ q : LinkPort, ({ q with buffer := bs } : LinkPort).badFrame = { q.badFrame with buffer := bs } := fun _ => rfl
  have good : ∀ (q : LinkPort) k b, ({ q with buffer := bs } : LinkPort).goodFrame k b = { q.goodFrame k b with buffer := bs } := by
    intro q k b
    unfold goodFrame
    generalize parseLinkRequest k b = r
    cases r <;> rfl
  have look : ∀ q : LinkPort, ({ q with buffer := bs } : LinkPort).examine = { q.examine with buffer := bs } := by
    intro q
    unfold examine
    dsimp only
    split
    · split
      · exact bad q
      · split
        · rfl
        · split
          · split
            · exact good q _ _
            · exact bad q
          · exact bad q
    · rfl
  unfold takeByte
  dsimp only
  split
  · split <;> rfl
  · exact look { p with frame := p.frame ++ [x], quietSince := now }
  · rfl
  · rfl

/-- The buffer that a pump starts with has no part in what it comes to. -/
theorem LinkPort.pump_buffer (now : Time) (xs bs : List Byte) (p : LinkPort) :
    LinkPort.pump now xs { p with buffer := bs } = LinkPort.pump now xs p := by
  induction xs generalizing p with
  | nil => rfl
  | cons x xs ih =>
    unfold pump
    split
    · rw [takeByte_buffer, ih]
    · rfl

/-- Bytes taken one after another, each as it arrives, are taken as a run of waiting ones is. -/
theorem LinkPort.pump_arrivals (now : Time) (xs : List Byte) (p : LinkPort) (hp : p.state.takesBytes = true → p.buffer = [])
    (hl : p.buffer.length + xs.length ≤ 1024) :
    xs.foldl (fun q x => q.byteArrives now x) p =
      if p.state.takesBytes then LinkPort.pump now xs p else { p with buffer := p.buffer ++ xs } := by
  induction xs generalizing p with
  | nil =>
    split
    · rename_i h
      exact (congrArg (fun bs => { p with buffer := bs }) (hp h) : { p with buffer := p.buffer } = { p with buffer := [] })
    · simp
  | cons x xs ih =>
    rw [List.foldl_cons]
    have hn : ¬ Config.receiveBufferBytes ≤ p.buffer.length := by
      simp only [List.length_cons] at hl
      simp only [Config.receiveBufferBytes]
      omega
    rw [byteArrives, if_neg hn]
    by_cases h : p.state.takesBytes = true
    · have hb := hp h
      rw [hb, List.nil_append, if_pos h]
      have e : pump now [x] p = { p.takeByte now x with buffer := [] } := by rw [pump, if_pos h]; rfl
      have e' : pump now (x :: xs) p = pump now xs (p.takeByte now x) := by rw [pump, if_pos h]
      rw [e, e', ih _ (fun _ => rfl) (by simp only [List.length_cons] at hl; simp; omega), pump_buffer]
      split
      · rfl
      · rename_i hs
        cases xs with
        | nil => rfl
        | cons y ys => rw [pump, if_neg hs]; rfl
    · rw [if_neg h]
      obtain ⟨y, ys, hy⟩ : ∃ y ys, p.buffer ++ [x] = y :: ys := by cases p.buffer <;> simp
      have e : pump now (p.buffer ++ [x]) p = { p with buffer := p.buffer ++ [x] } := by
        rw [hy, pump, if_neg h]
      rw [e]
      refine (ih { p with buffer := p.buffer ++ [x] } (fun h' => absurd h' h)
        (by simp only [List.length_cons] at hl; simp only [List.length_append, List.length_cons, List.length_nil]; omega)).trans ?_
      rw [if_neg h]
      simp only [List.append_assoc, List.cons_append, List.nil_append]

end Sys2Proof.Machine
end

