-- ==== Sys2Proof/Laws/Table.lean ====
section
/-! SUPPORT. What the operations of the clearance table and its port do, one lemma for each fact that proofs cite. -/

namespace Sys2Proof.Machine

/-! ## The list of entries -/

theorem mem_insertEntry {e x : Entry} {xs : List Entry} (h : x ∈ insertEntry e xs) : x = e ∨ x ∈ xs := by
  induction xs with
  | nil => simpa [insertEntry] using h
  | cons y ys ih =>
    rw [insertEntry] at h
    split at h
    · simpa using h
    · split at h
      · rcases List.mem_cons.1 h with h | h
        · exact .inl h
        · exact .inr (List.mem_cons_of_mem _ h)
      · rcases List.mem_cons.1 h with h | h
        · exact .inr (by simp [h])
        · rcases ih h with h | h
          · exact .inl h
          · exact .inr (List.mem_cons_of_mem _ h)

/-- Writing an entry keeps the strict order by item. -/
theorem insertEntry_ordered {e : Entry} {xs : List Entry} (h : xs.Pairwise fun a b => a.item < b.item) :
    (insertEntry e xs).Pairwise fun a b => a.item < b.item := by
  induction xs with
  | nil => simp [insertEntry]
  | cons y ys ih =>
    obtain ⟨hy, hys⟩ := List.pairwise_cons.1 h
    rw [insertEntry]
    split
    next lt =>
      refine List.pairwise_cons.2 ⟨fun z hz => ?_, h⟩
      rcases List.mem_cons.1 hz with rfl | hz
      · exact lt
      · exact Nat.lt_trans lt (hy z hz)
    next notLt =>
      split
      next eq => exact List.pairwise_cons.2 ⟨fun z hz => by rw [eq]; exact hy z hz, hys⟩
      next ne =>
        refine List.pairwise_cons.2 ⟨fun z hz => ?_, ih hys⟩
        rcases mem_insertEntry hz with rfl | hz
        · exact Nat.lt_of_le_of_ne (Nat.le_of_not_lt notLt) fun e => ne e.symm
        · exact hy z hz

/-- Writing an entry makes it the one that is found for its item, and leaves every other item's as it was. -/
theorem find_insertEntry (e : Entry) (xs : List Entry) (i : Item) :
    (insertEntry e xs).find? (fun x => x.item == i) = if i = e.item then some e else xs.find? fun x => x.item == i := by
  induction xs with
  | nil =>
    by_cases h : i = e.item
    · subst h; simp [insertEntry]
    · simp [insertEntry, h, show ¬ e.item = i from fun hh => h hh.symm]
  | cons y ys ih =>
    rw [insertEntry]
    by_cases hi : i = e.item
    · subst hi
      split
      · simp
      · split
        · simp
        next h1 h2 => simp [ih, show ¬ y.item = e.item from fun h => h2 h.symm]
    · have hne : ¬ e.item = i := fun h => hi h.symm
      split
      · simp [hne, hi]
      · split
        next h2 => simp [hne, hi, show ¬ y.item = i from fun h => hi (by rw [← h, ← h2])]
        · simp [List.find?_cons, ih, hi]

/-- Taking the entries of an item out of a list leaves none of it, and leaves every other item's as it was. -/
theorem find_filter_item (xs : List Entry) (i j : Item) :
    (xs.filter fun e => e.item != j).find? (fun x => x.item == i) = if i = j then none else xs.find? fun x => x.item == i := by
  induction xs with
  | nil => simp
  | cons y ys ih =>
    by_cases hy : y.item = j
    · rw [List.filter_cons_of_neg (by simp [hy]), ih]
      by_cases hi : i = j
      · simp [hi]
      · rw [List.find?_cons_of_neg (by simp [hy, show ¬ j = i from fun h => hi h.symm])]
    · rw [List.filter_cons_of_pos (by simp [hy])]
      by_cases hyi : y.item = i
      · have : ¬ i = j := fun h => hy (by rw [hyi, h])
        rw [List.find?_cons_of_pos (by simp [hyi]), List.find?_cons_of_pos (by simp [hyi])]
        simp [this]
      · rw [List.find?_cons_of_neg (by simp [hyi]), List.find?_cons_of_neg (by simp [hyi]), ih]

namespace State

@[simp] theorem findEntry_putEntry_same (s : State) (e : Entry) : (s.putEntry e).findEntry e.item = some e := by
  simp [findEntry, find_insertEntry]

theorem findEntry_putEntry (s : State) (e : Entry) (i : Item) :
    (s.putEntry e).findEntry i = if i = e.item then some e else s.findEntry i := by
  simp [findEntry, find_insertEntry]

theorem findEntry_dropEntry (s : State) (i j : Item) :
    (s.dropEntry j).findEntry i = if i = j then none else s.findEntry i := find_filter_item ..

/-- An entry that is found has the item it was looked for. -/
theorem findEntry_item {s : State} {i : Item} {e : Entry} (h : s.findEntry i = some e) : e.item = i := by
  have := List.find?_some h
  simpa using this

/-- An entry that is found is in the table. -/
theorem findEntry_mem {s : State} {i : Item} {e : Entry} (h : s.findEntry i = some e) : e ∈ s.table.entries :=
  List.mem_of_find?_eq_some h

theorem tableOrdered_putEntry {s : State} (h : s.tableOrdered) (e : Entry) : (s.putEntry e).tableOrdered :=
  insertEntry_ordered h

theorem tableOrdered_dropEntry {s : State} (h : s.tableOrdered) (i : Item) : (s.dropEntry i).tableOrdered :=
  List.Pairwise.filter _ h

end State

/-! ## Room (02 R29) -/

/-- Where no entry can be evicted, none is DEPARTED. -/
theorem evictionVictim_none {es : List Entry} (h : evictionVictim es = none) : ∀ e ∈ es, e.stage ≠ .departed := by
  induction es with
  | nil => simp
  | cons y ys ih =>
    rw [evictionVictim] at h
    split at h
    next none =>
      intro e he
      rcases List.mem_cons.1 he with rfl | he
      · simpa using h
      · exact ih none e he
    next => split at h <;> cases h

/-- An eviction takes a DEPARTED entry of the table, and none of those is due before it. -/
theorem evictionVictim_spec {es : List Entry} {v : Entry} (h : evictionVictim es = some v) :
    v ∈ es ∧ v.stage = .departed ∧ ∀ e ∈ es, e.stage = .departed → v.due ≤ e.due := by
  induction es generalizing v with
  | nil => simp [evictionVictim] at h
  | cons y ys ih =>
    rw [evictionVictim] at h
    split at h
    next none =>
      split at h
      next dep =>
        cases h
        refine ⟨by simp, by simpa using dep, fun e he hd => ?_⟩
        rcases List.mem_cons.1 he with rfl | he
        · exact Nat.le_refl _
        · exact absurd hd (evictionVictim_none none e he)
      next => cases h
    next w hw =>
      obtain ⟨mem, dep, least⟩ := ih hw
      split at h
      next c =>
        simp at c
        cases h
        refine ⟨by simp, c.1, fun e he hd => ?_⟩
        rcases List.mem_cons.1 he with rfl | he
        · exact Nat.le_refl _
        · exact Nat.le_trans c.2 (least e he hd)
      next c =>
        cases h
        refine ⟨List.mem_cons_of_mem _ mem, dep, fun e he hd => ?_⟩
        rcases List.mem_cons.1 he with rfl | he
        · exact Nat.le_of_lt (Nat.lt_of_not_le fun le => c (by simp [hd, le]))
        · exact least e he hd

/-! ## The expiry process (02 R34) -/

/-- Where no entry is named, none is due. -/
theorem dueEntry_none {now : Time} {es : List Entry} (h : State.dueEntry now es = none) : ∀ e ∈ es, now < e.due := by
  induction es with
  | nil => simp
  | cons y ys ih =>
    rw [State.dueEntry] at h
    split at h
    next none =>
      intro e he
      rcases List.mem_cons.1 he with rfl | he
      · split at h
        · cases h
        next late => exact Nat.lt_of_not_le late
      · exact ih none e he
    next => split at h <;> cases h

/-- The entry that is named is in the table, its due time has been reached, and none is due before it. -/
theorem dueEntry_spec {now : Time} {es : List Entry} {v : Entry} (h : State.dueEntry now es = some v) :
    v ∈ es ∧ v.due ≤ now ∧ ∀ e ∈ es, v.due ≤ e.due := by
  induction es generalizing v with
  | nil => simp [State.dueEntry] at h
  | cons y ys ih =>
    rw [State.dueEntry] at h
    split at h
    next none =>
      split at h
      next due =>
        cases h
        refine ⟨by simp, due, fun e he => ?_⟩
        rcases List.mem_cons.1 he with rfl | he
        · exact Nat.le_refl _
        · exact Nat.le_of_lt (Nat.lt_of_le_of_lt due (dueEntry_none none e he))
      next => cases h
    next w hw =>
      obtain ⟨mem, due, least⟩ := ih hw
      split at h
      next c =>
        simp at c
        cases h
        refine ⟨by simp, c.1, fun e he => ?_⟩
        rcases List.mem_cons.1 he with rfl | he
        · exact Nat.le_refl _
        · exact Nat.le_trans c.2 (least e he)
      next c =>
        cases h
        refine ⟨List.mem_cons_of_mem _ mem, due, fun e he => ?_⟩
        rcases List.mem_cons.1 he with rfl | he
        · exact Nat.le_of_not_le fun le => c (by simpa [le] using Nat.le_trans le due)
        · exact least e he

/-! ## Creating an entry (02 R29) -/

namespace State

/-- Room is there already, or a DEPARTED entry leaves for it and the evicted counter rises, or there is none. -/
theorem makeRoom_cases (s : State) :
    (s.table.entries.length < Config.tableCapacity ∧ s.makeRoom = some s)
      ∨ (Config.tableCapacity ≤ s.table.entries.length ∧ ∃ v, evictionVictim s.table.entries = some v
          ∧ s.makeRoom = some { s.dropEntry v.item with
              table := { (s.dropEntry v.item).table with evicted := s.table.evicted + 1 } })
      ∨ (Config.tableCapacity ≤ s.table.entries.length ∧ evictionVictim s.table.entries = none ∧ s.makeRoom = none) := by
  unfold makeRoom
  by_cases h : s.table.entries.length < Config.tableCapacity
  · exact .inl ⟨h, by simp [h]⟩
  · have h' : Config.tableCapacity ≤ s.table.entries.length := by omega
    right
    cases hv : evictionVictim s.table.entries with
    | none => exact .inr ⟨h', rfl, by simp [h, hv]⟩
    | some v => exact .inl ⟨h', v, rfl, by simp [h, dropEntry, hv]⟩

/-- A creating claim with room adds its entry. -/
theorem create_room {s s' : State} (h : s.makeRoom = some s') (answer : Code) (add : State → State) :
    s.create answer add = (add s', answer) := by simp [create, h]

/-- A creating claim without room is refused with TABLE_FULL and raises the notice. -/
theorem create_full {s : State} (h : s.makeRoom = none) (answer : Code) (add : State → State) :
    s.create answer add = (s.raise .tableFull, .tableFull) := by simp [create, h]

end State

/-! ## The ring (02 R30) -/

/-- The claimant whose turn it is has a claim waiting. -/
theorem TablePort.turn_waiting {p : TablePort} {c : Claimant} (h : p.turn = some c) : p.waiting c = true :=
  List.find?_some h

/-- A turn comes whenever a claim waits. -/
theorem TablePort.turn_isSome {p : TablePort} {c : Claimant} (h : p.waiting c = true) : p.turn.isSome = true := by
  have : c ∈ ringAfter p.lastServed := by cases c <;> cases p.lastServed <;> simp [ringAfter]
  simp only [TablePort.turn, List.find?_isSome]
  exact ⟨c, this, h⟩

/-- A request port's next claim is waiting at the port. -/
theorem TablePort.nextRequest_waiting {p : TablePort} {q : PortId} {c : Claim} (h : p.nextRequest = some (q, c)) :
    (q = .desk ∧ p.desk = some c) ∨ (q = .link ∧ p.link = some c) := by
  unfold TablePort.nextRequest at h
  split at h
  · rcases hd : p.desk with _ | d <;> simp [hd] at h
    simp [h]
  · rcases hd : p.link with _ | d <;> simp [hd] at h
    simp [h]
  all_goals cases h

end Sys2Proof.Machine
end

