-- ==== Sys2Proof/Laws/Wire.lean ====
section
/-! SUPPORT. What the bytes of a body spell: numbers written most significant byte first read back, and which bodies an item
list fits. -/

namespace Sys2Proof.Machine

@[simp] theorem beBytes_length (k n : Nat) : (beBytes k n).length = k := by
  induction k with
  | zero => rfl
  | succ k ih => simp [beBytes, ih]

theorem foldl_spelling (l : List Byte) (a : Nat) :
    l.foldl (fun n (b : Byte) => 256 * n + b.toNat) a = a * 256 ^ l.length + beNat l := by
  induction l generalizing a with
  | nil => simp [beNat]
  | cons b l ih =>
    simp only [List.foldl_cons, List.length_cons, beNat]
    rw [ih, ih]
    ring

theorem beNat_cons (b : Byte) (l : List Byte) : beNat (b :: l) = b.toNat * 256 ^ l.length + beNat l := by
  rw [beNat, List.foldl_cons, foldl_spelling]
  simp

/-- A number written in `k` bytes reads back modulo its size. -/
theorem beNat_beBytes (k n : Nat) : beNat (beBytes k n) = n % 256 ^ k := by
  induction k with
  | zero => simp [beBytes, beNat, Nat.mod_one]
  | succ k ih =>
    rw [beBytes, beNat_cons, beBytes_length, ih, pow_succ, Nat.mod_mul, BitVec.toNat_ofNat]
    ring

theorem beNat_five (i : Item) (h : i < 256 ^ 5) :
    beNat [BitVec.ofNat 8 (i / 256 ^ 4), BitVec.ofNat 8 (i / 256 ^ 3), BitVec.ofNat 8 (i / 256 ^ 2), BitVec.ofNat 8 (i / 256 ^ 1),
      BitVec.ofNat 8 (i / 256 ^ 0)] = i := by
  have := beNat_beBytes 5 i
  rwa [Nat.mod_eq_of_lt h] at this

/-- Items written in 5 bytes each are found again. -/
theorem parseItems_bytes (items : List Item) (h : ∀ i ∈ items, i < 256 ^ 5) :
    parseItems items.length (items.flatMap (beBytes 5)) =
      some (items.map fun i => { item := i, allowance := 0, lanes := 0 }) := by
  induction items with
  | nil => rfl
  | cons i is ih =>
    rw [List.flatMap_cons, List.length_cons]
    show (parseItems is.length (is.flatMap (beBytes 5))).map _ = _
    rw [ih fun j hj => h j (by simp [hj]), beNat_five i (h i (by simp))]
    rfl

/-- LOAD groups of item, allowance and lanes are found again. -/
theorem parseLoads_bytes (items : List RawItem) (h : ∀ x ∈ items, x.item < 256 ^ 5 ∧ x.allowance < 256) :
    parseLoads items.length (items.flatMap fun x => beBytes 5 x.item ++ [BitVec.ofNat 8 x.allowance, x.lanes]) = some items := by
  induction items with
  | nil => rfl
  | cons x xs ih =>
    obtain ⟨hi, ha⟩ := h x (by simp)
    rw [List.flatMap_cons, List.length_cons]
    show (parseLoads xs.length (xs.flatMap fun x => beBytes 5 x.item ++ [BitVec.ofNat 8 x.allowance, x.lanes])).map _ = _
    rw [ih fun y hy => h y (by simp [hy]), beNat_five x.item hi, BitVec.toNat_ofNat, Nat.mod_eq_of_lt ha]
    rfl

theorem parseItems_isSome (n : Nat) (l : List Byte) : (parseItems n l).isSome ↔ l.length = 5 * n := by
  induction n generalizing l with
  | zero => cases l <;> simp [parseItems]
  | succ n ih =>
    match l with
    | [] | [_] | [_, _] | [_, _, _] | [_, _, _, _] => simp [parseItems]; try omega
    | a :: b :: c :: d :: e :: rest => simp [parseItems, ih]; omega

theorem parseLoads_isSome (n : Nat) (l : List Byte) : (parseLoads n l).isSome ↔ l.length = 7 * n := by
  induction n generalizing l with
  | zero => cases l <;> simp [parseLoads]
  | succ n ih =>
    match l with
    | [] | [_] | [_, _] | [_, _, _] | [_, _, _, _] | [_, _, _, _, _] | [_, _, _, _, _, _] => simp [parseLoads]; try omega
    | a :: b :: c :: d :: e :: f :: g :: rest => simp [parseLoads, ih]; omega

theorem itemRequest_ne_bad (k : ItemKind) (o : RawOptions) (x : Option (List RawItem)) : itemRequest k o x ≠ .bad ↔ x.isSome := by
  cases x <;> simp [itemRequest]

/-- Which bytes after an item count a body may have. -/
theorem countedItems_isSome (limit size : Nat) (parse : Nat → List Byte → Option (List RawItem)) (n : Byte) (l : List Byte)
    (h : ∀ n l, (parse n l).isSome ↔ l.length = size * n) :
    (countedItems limit parse n l).isSome ↔ 1 ≤ n.toNat ∧ n.toNat ≤ limit ∧ l.length = size * n.toNat := by
  unfold countedItems
  split
  · rename_i hn
    rw [h]
    tauto
  · rename_i hn
    simp only [Option.isSome_none, Bool.false_eq_true, false_iff]
    tauto

/-! ## Which bodies fit their kind -/

/-- A body of `before` bytes, an item count from 1 to `limit`, and that many groups of `size` bytes. -/
def FitsCount (body : List Byte) (before size limit : Nat) : Prop :=
  ∃ n, body[before]? = some n ∧ 1 ≤ n.toNat ∧ n.toNat ≤ limit ∧ body.length = before + 1 + size * n.toNat

theorem parseOptionsAndItems_ne_bad (k : ItemKind) (body : List Byte) :
    parseOptionsAndItems k body ≠ .bad ↔ FitsCount body 4 5 8 := by
  match body with
  | [] | [_] | [_, _] | [_, _, _] | [_, _, _, _] => simp [parseOptionsAndItems, FitsCount]
  | a :: b :: c :: d :: n :: rest =>
    simp [parseOptionsAndItems, FitsCount, itemRequest_ne_bad, countedItems_isSome 8 5 _ _ _ parseItems_isSome]
    omega

theorem parseAllowanceAndItems_ne_bad (k : ItemKind) (body : List Byte) :
    parseAllowanceAndItems k body ≠ .bad ↔ FitsCount body 1 5 8 := by
  match body with
  | [] | [_] => simp [parseAllowanceAndItems, FitsCount]
  | a :: n :: rest =>
    simp [parseAllowanceAndItems, FitsCount, itemRequest_ne_bad, countedItems_isSome 8 5 _ _ _ parseItems_isSome]
    omega

theorem parseCounted_ne_bad (k : ItemKind) (limit size : Nat) (parse : Nat → List Byte → Option (List RawItem))
    (h : ∀ n l, (parse n l).isSome ↔ l.length = size * n) (body : List Byte) :
    parseCounted k limit parse body ≠ .bad ↔ FitsCount body 0 size limit := by
  match body with
  | [] => simp [parseCounted, FitsCount]
  | n :: rest =>
    simp [parseCounted, FitsCount, itemRequest_ne_bad, countedItems_isSome limit size _ _ _ h]
    omega

theorem parseByte_ne_bad (f : Nat → Request) (h : ∀ n, f n ≠ .bad) (body : List Byte) :
    parseByte f body ≠ .bad ↔ body.length = 1 := by
  unfold parseByte
  split
  · simp [h]
  · rename_i hn
    simpa [List.length_eq_one_iff] using hn

theorem parseTwo_ne_bad (f : Nat → Request) (h : ∀ n, f n ≠ .bad) (body : List Byte) :
    parseTwo f body ≠ .bad ↔ body.length = 2 := by
  match body with
  | [] | [_] | _ :: _ :: _ :: _ => simp [parseTwo]
  | [_, _] => simp [parseTwo, h]

theorem parseItem_ne_bad (f : Item → Request) (h : ∀ n, f n ≠ .bad) (body : List Byte) :
    parseItem f body ≠ .bad ↔ body.length = 5 := by
  match body with
  | [] | [_] | [_, _] | [_, _, _] | [_, _, _, _] | _ :: _ :: _ :: _ :: _ :: _ :: _ => simp [parseItem]
  | [_, _, _, _, _] => simp [parseItem, h]

theorem parseNothing_ne_bad (r : Request) (h : r ≠ .bad) (body : List Byte) : parseNothing r body ≠ .bad ↔ body.length = 0 := by
  cases body <;> simp [parseNothing, h]

end Sys2Proof.Machine
end

