-- ==== Sys2Proof/Tests/Slice0.lean ====
section
/-! SUPPORT. Tests: the checks of WellFormed, worked values and examples of the spec, and for every statement with hypotheses a
state that meets them, at the bounds of their ranges, with what the command then does. -/

namespace Sys2Proof.Tests

open Sys2Proof Sys2Proof.Machine

set_option Elab.async false

/-! ## WellFormed -/

theorem test_graceEnd_of_item_0_is_refused : (Instr.graceEnd 0).wellFormed = false := by decide
theorem test_graceEnd_above_the_largest_item_is_refused : (Instr.graceEnd 1099511627776).wellFormed = false := by decide
theorem test_graceEnd_of_the_largest_item_is_taken : (Instr.graceEnd 1099511627775).wellFormed = true := by decide
theorem test_empty_messages_are_refused :
    (Instr.identReply 0 .inner []).wellFormed = false ∧ (Instr.roundReport 0 .inner []).wellFormed = false
      ∧ (Instr.probeReport 0 .inner []).wellFormed = false ∧ (Instr.headMessageDiscarded 0 .inner []).wellFormed = false := by
  decide
theorem test_messages_of_one_byte_are_taken :
    (Instr.identReply 7 .outer [0]).wellFormed = true ∧ (Instr.headMessageDiscarded 7 .outer [0]).wellFormed = true := by decide

/-! ## States for the tests -/

/-- A command answers a next state that passes a check. -/
def goes (o : StepOutcome) (check : State → Bool) : Bool :=
  match o with
  | .next t => check t
  | .fault _ | .refused _ => false

/-- The service link port has taken a request. -/
def linkAsked (r : Request) (s : State := State.reset) : State :=
  { s with link := { s.link with state := .working, work := .taken .link 1 r } }

/-- The desk bus port has taken a request of desk `d`. -/
def deskAsked (d : DeskId) (r : Request) (s : State := State.reset) : State :=
  { s with desk := { s.desk with state := .working, work := .taken (.desk d) 1 r, clockHeld := true } }

def noOptions : ClaimOptions := { batch := none, lanes := none, allowance := none }
def plain : RawOptions := { batch := 0, lanes := 0, allowance := 0 }
def raw (i : Item) : RawItem := { item := i, allowance := 0, lanes := 0 }

/-- The claim of a one-item request waits at the table port: a desk's, or the host's. -/
def claimed (k : ItemKind) (src : Source) (i : Item) (s : State) : State :=
  match src with
  | .link =>
    { s with port := { s.port with link := some (.item k i .link noOptions) }
             link := { s.link with state := .working, work := .items k .link noOptions [] [] } }
  | .desk d =>
    { s with port := { s.port with desk := some (.item k i (.desk d) noOptions) }
             desk := { s.desk with state := .working, work := .items k (.desk d) noOptions [] [], clockHeld := true } }

/-- A claim of a host's batch series waits at the table port. -/
def batched (k : BatchKind) (sel : Source) (b : Nat) (cursor : Item) (count : Nat) (s : State) : State :=
  { s with port := { s.port with link := some (.batch k .link sel b cursor) }
           link := { s.link with state := .working, work := .batch k count } }

def entry (i : Item) (st : Stage) (src : Source) (due : Time) : Entry :=
  { item := i, stage := st, source := src, batch := some 12, lanes := none, allowance := 30, created := 0, due := due,
    exits := 0, lastLane := none }

/-- The table holds these entries, with their pending counts. -/
def holding (es : List Entry) (s : State := State.reset) : State :=
  { s with table := { s.table with
      entries := es
      pendingCounts := Vector.ofFn fun n : Fin 16 => es.countP fun e => e.stage == .pending && e.source.index == n } }

/-- Hall time is `n`. -/
def atTime (n : Time) (s : State := State.reset) : State := { s with hallTime := n }

def alarm (n : BitVec 16) (l : LaneId) (i : Item) (st : AlarmState) (raised : Time) : AlarmRecord :=
  { number := n, lane := l, item := i, raw := none, cls := .unissued, unverified := false, raised := raised,
    soundingEnd := raised + 10000, state := st, closedAt := none, closedBy := none }

/-- The log holds these records. -/
def logged (rs : List AlarmRecord) (s : State := State.reset) : State := { s with log := { s.log with records := rs } }

def judgement (i : Item) (l : LaneId) (st : JudgementStage) : Judgement :=
  { item := i, owner := l, raw := none, cls := .lending, reason := none, stage := st, graceEnd := none, verdict := none,
    alarmNumber := none }

/-- The judgement unit holds these judgements, and these messages are on their way to it. -/
def judging (js : List Judgement) (inbox : List TableMessage) (answer : Option (Item × Bool)) (s : State := State.reset) : State :=
  { s with judge := { entries := js, asking := [], answer := answer, inbox := inbox } }

/-- Lane `l` changed. -/
def withLane (l : LaneId) (f : Lane → Lane) (s : State := State.reset) : State := s.setLane l (f (s.lane l))

/-- A head on which a command is outstanding, sent at 0. -/
def waiting (c : HeadCommand) (q : BitVec 8) (u : HeadUnit) : HeadUnit :=
  { u with state := .busy, seq := q, outstanding := some { command := c, sentAt := 0 } }

def ready (u : HeadUnit) : HeadUnit := { u with state := .ready }

/-- Lane 3 is IN_SERVICE, holds the band of its group and has a cycle or probe in flight. -/
def flying (f : Flight) (inner outer : HeadUnit → HeadUnit) (g : Lane → Lane := id) (s : State := State.reset) : State :=
  let s := withLane 3 (fun x => g { x with state := .inService, inner := inner x.inner, outer := outer x.outer, flight := f }) s
  s.setBand 1 { band := .held 3, tenureCount := 1, guardEnd := 0, lastHolder := some 3 }

/-- A message of a head with its check. -/
def message (payload : List Byte) : List Byte := payload ++ crcBytes payload

def passage (i : Item) (st : PassageStage) : Passage :=
  { item := i, raw := none, window := 16, cls := .lending, firstSeen := 0, firstHead := .inner, innerTally := 2, outerTally := 1,
    innerConfirmed := some 1, outerConfirmed := none, missCount := 1, stage := st, verdict := none }

/-! ## Worked values (11) -/

theorem test_check_value_of_ident : crc [0x01] = 0xF1D1#16 := by decide +kernel
theorem test_check_value_of_the_nine_digits :
    crc [0x31, 0x32, 0x33, 0x34, 0x35, 0x36, 0x37, 0x38, 0x39] = 0x29B1#16 := by decide +kernel
theorem test_ident_as_sent : HeadCommand.ident.bytes = [0x01, 0xF1, 0xD1] := by decide +kernel
theorem test_head_commands_as_sent :
    (HeadCommand.round 1 40).bytes.take 3 = [2, 1, 40] ∧ (HeadCommand.abort 9).bytes.take 2 = [4, 9]
      ∧ (HeadCommand.probe 3 { mark := 258, item := 5 }).bytes.take 9 = [3, 3, 1, 2, 0, 0, 0, 0, 5]
      ∧ [HeadCommand.ident, .round 1 40, .probe 3 { mark := 258, item := 5 }, .abort 9].map (fun c => c.bytes.length) = [3, 5, 11, 4] := by
  decide +kernel
theorem test_record_lengths :
    (entry 5 .pending .link 0).bytes.length = 20 ∧ (alarm 1 2 3 .opened 4).bytes.length = 35
      ∧ ((passage 5 .sent).bytes true).length = 37 ∧ ((judgement 5 0 .done).bytes 0).length = 12 := by decide +kernel
theorem test_status_length : (statusReply State.reset).length = 640 := by decide +kernel

/-! ## The windows of 01 section 1.3 -/

def exampleWindows (s : State := State.reset) : State :=
  let window := fun (base k : Nat) (c : ItemClass) (target : Option Item) =>
    ({ enabled := true, base := base, k := k, cls := c, target := target } : StockWindow)
  { s with windows := (((s.windows.set 0 (window 1048576 16 .staff none)).set 1 (window 1114112 16 .exempt none)).set 2
      (window 1073741824 20 .lending (some 2097152))).set 3 (window 3145728 18 .reference none) }

theorem test_matching_of_the_example :
    exampleWindows.normalise 1050000 = { item := 1050000, raw := none, cls := .staff, column := 0 }
      ∧ exampleWindows.normalise 1073741900 = { item := 2097228, raw := some 1073741900, cls := .lending, column := 2 }
      ∧ exampleWindows.normalise 2097228 = { item := 2097228, raw := none, cls := .lending, column := 16 }
      ∧ exampleWindows.normalise 3200000 = { item := 3200000, raw := none, cls := .reference, column := 3 }
      ∧ exampleWindows.normalise 5 = { item := 5, raw := none, cls := .lending, column := 16 } := by decide +kernel
theorem test_key_lookup_of_the_example : exampleWindows.keyLookup 2097228 = (.lending, 2) := by decide +kernel

/-- The window that covers a raw number, with none before it (RawNumbersAreMatchedAndNormalised), and the one whose image
holds a key (KeyLookupUsesTheWindowImages), at the ends of W2's ranges. -/
theorem test_witness_windows :
    let s := exampleWindows
    (s.windows[2].enabled = true ∧ s.windows[2].base ≤ 1074790399
        ∧ 1074790399 < s.windows[2].base + 2 ^ s.windows[2].k)
      ∧ (∀ v : Fin 16, v < 2 → ¬ (s.windows[v].enabled = true ∧ s.windows[v].base ≤ 1074790399
          ∧ 1074790399 < s.windows[v].base + 2 ^ s.windows[v].k))
      ∧ (∀ v : Fin 16, ¬ (s.windows[v].enabled = true ∧ s.windows[v].base ≤ 1074790400
          ∧ 1074790400 < s.windows[v].base + 2 ^ s.windows[v].k))
      ∧ s.keyLookup 2097152 = (.lending, 2) ∧ s.keyLookup 3145727 = (.lending, 2) ∧ s.keyLookup 2097151 = (.lending, 16) := by
  decide +kernel

/-- Renumbering windows that SET WINDOW lets in have targets above 0 that stay in range, here all four. -/
theorem test_witness_targets : ∀ (w : Fin 16) , exampleWindows.windows[w].target.all fun target =>
    decide (target ≠ 0 ∧ target + 2 ^ exampleWindows.windows[w].k - 1 ≤ 1099511627775) := by decide +kernel

/-! ## Steps and resets -/

theorem test_step_runs_the_front_command :
    goes (step (State.reset.withCommand (.deskAddressByte 0x2C .write))) (fun t => t.desk.state == .receiving && t.pending == []) =
      true := by decide +kernel
theorem test_idle_step_lets_a_millisecond_pass :
    State.reset.pending = [] ∧ State.reset.dueEvent = none ∧ goes (step State.reset) (fun t => t.hallTime == 1) = true := by
  decide +kernel
theorem test_hall_time_wraps : goes (step (atTime 281474976710655)) (fun t => t.hallTime == 0) = true := by decide +kernel
theorem test_idle_step_takes_what_is_due :
    (linkAsked .readStatus).pending = [] ∧ (linkAsked .readStatus).dueEvent = some .readStatus
      ∧ goes (step (linkAsked .readStatus)) (fun t => t.link.state == .sending) = true := by decide +kernel
/-- Each deadline that has been reached is due by its own command (IdleStepTakesWhatIsDueElseAMillisecond). -/
theorem test_idle_step_takes_each_deadline :
    let guarded := State.reset.setBand 1 { band := .guarding, tenureCount := 0, guardEnd := 0, lastHolder := none }
    let out := flying (.rounds .paired none none) ready (fun u => waiting (.round 1 40) 1 u) (s := atTime 100)
    let silenced := withLane 3 (fun x => { x with state := .inService, sounder := true }) (logged [alarm 7 3 5 .opened 0] (atTime 10000))
    let unheard := { atTime 50 with link := { State.reset.link with state := .receiving } }
    let read := { State.reset with desk := { State.reset.desk with state := .working, reply := [17] } }
    (out.lane 3).settings.roundTimeout = 100 ∧ guarded.dueEvent = some (.guardEnd 1) ∧ out.dueEvent = some (.roundTimeout 3 .outer)
      ∧ (atTime 9 { State.reset with standing := State.reset.standing.set 4 (some { staffItem := 1, ends := 9 }) }).dueEvent =
          some (.standingEnd 4)
      ∧ (judging [{ judgement 5 1 .heldAbsent with graceEnd := some 0 }] [] none).dueEvent = some (.graceEnd 5)
      ∧ silenced.dueEvent = some (.soundingEnd 7) ∧ (holding [entry 5 .cleared .link 0]).dueEvent = some .dueTimeReached
      ∧ unheard.dueEvent = some .frameTimeout ∧ read.dueEvent = some (.badRequest .desk) := by decide +kernel
theorem test_power_on_reset_reads_the_straps :
    goes (exec (.powerOnReset 3 2) (atTime 9)) (fun t => t.desk.address == 0x2F && t.link.rate == 2 && t.hallTime == 0) = true := by
  decide +kernel

/-! ## The order of checks, and standing -/

/-- Desk 6 (record 5) with rights in some columns, and the example windows. -/
def deskSix (s : State := State.reset) : State :=
  (((exampleWindows s).writeRights 5 [16] .both).writeRights 5 [2] .issue).writeRights 5 [0, 3] .both

/-- Each clause of ItemChecksRefuseInOrder has a state, a kind, a source and an item that meet its hypotheses. -/
theorem test_witness_item_checks :
    let s := deskSix
    s.checkItem .hold (.desk 5) (raw 0) = .error .badItem ∧ s.checkItem .query .link (raw 1099511627776) = .error .badItem
      ∧ s.checkItem .load .link { item := 5, allowance := 0, lanes := 0 } = .error .badValue
      ∧ s.checkItem .load .link { item := 5, allowance := 241, lanes := 0 } = .error .badValue
      ∧ s.checkItem .confirm (.desk 5) (raw 3200000) = .error .referenceStock
      ∧ s.checkItem .issue (.desk 5) (raw 1050000) = .error .notStock
      ∧ s.checkItem .hold (.desk 4) (raw 5) = .error .noRight
      ∧ s.checkItem .discharge (.desk 5) (raw 1073741900) = .error .noRight
      ∧ (({ s with hall := { s.hall with defaultClass := .restricted } }).checkItem .issue (.desk 5) (raw 1099511627775)
          = .error .noStanding)
      ∧ s.checkItem .issue (.desk 5) (raw 1099511627775) =
          .ok { item := 1099511627775, raw := none, cls := .lending, column := 16 }
      ∧ s.checkItem .load .link { item := 1, allowance := 240, lanes := 0 } =
          .ok { item := 1, raw := none, cls := .lending, column := 16 } := by decide +kernel

theorem test_standing_is_refused :
    let bad := deskAsked 5 (.standing 0) (exampleWindows)
    let other := deskAsked 5 (.standing 1099511627775) (exampleWindows)
    bad.desk.work = .taken (.desk 5) 1 (.standing 0) ∧ other.desk.work = .taken (.desk 5) 1 (.standing 1099511627775)
      ∧ (other.normalise 1099511627775).cls ≠ .staff
      ∧ goes (exec .standing bad) (fun t => t.desk.reply == [14] && t.standing == bad.standing) = true
      ∧ goes (exec .standing other) (fun t => t.desk.reply == [9] && t.standing == other.standing) = true := by decide +kernel
theorem test_standing_is_granted :
    let s := deskAsked 5 (.standing 1050000) (exampleWindows (atTime 100))
    s.desk.work = .taken (.desk 5) 1 (.standing 1050000) ∧ (s.normalise 1050000).cls = .staff
      ∧ goes (exec .standing s) (fun t => t.desk.reply == [1]
          && t.standing[5] == some { staffItem := 1050000, ends := 600100 }) = true := by decide +kernel

def standing (d : DeskId) (ends : Time) (s : State := State.reset) : State :=
  s.setStanding d (some { staffItem := 7, ends := ends })

theorem test_end_standing :
    let s := deskAsked 14 .endStanding (standing 14 5 (atTime 5))
    s.desk.work = .taken (.desk 14) 1 .endStanding ∧ s.standing[14] = some { staffItem := 7, ends := 5 } ∧ (5 : Nat) ≤ s.hallTime
      ∧ goes (exec .endStanding s) (fun t => t.standing[14] == none && t.desk.reply == [1]) = true
      ∧ goes (exec (.standingEnd 14) s) (fun t => goes (exec .endStanding t) fun u => u.standing[14] == none) = true := by
  decide +kernel
theorem test_standing_end :
    goes (exec (.standingEnd 0) (standing 0 5 (atTime 5))) (fun t => t.standing[0] == none) = true
      ∧ goes (exec (.standingEnd 0) (standing 0 5 (atTime 4))) (fun t => t.standing[0] != none) = true := by decide +kernel

/-! ## Configuration -/

def topHall : RawHall :=
  { hallMark := 65535, defaultClass := 3, allowance := 240, leeway := 30, pendingLimit := 60, standingTime := 30,
    lateWindow := 300, guardGap := 20 }

theorem test_set_hall :
    (linkAsked (.setHall topHall)).link.work = .taken .link 1 (.setHall topHall)
      ∧ goes (exec .setHall (linkAsked (.setHall topHall))) (fun t => t.hall.guardGap == 20 && t.hall.defaultClass == .restricted
          && t.hall.hallMark == 65535 && t.link.reply.take 5 == [0x7E, 0, 2, 1, 1]) = true
      ∧ goes (exec .setHall (linkAsked (.setHall { topHall with guardGap := 21 }))) (fun t => t.hall == HallSettings.reset) = true
      ∧ goes (exec .setHall (linkAsked (.setHall { topHall with pendingLimit := 1 }))) (fun t => t.hall == HallSettings.reset)
          = true := by decide +kernel

/-- The refused SET WINDOW commands for W5 of 01 section 1.3, and one that is taken at the top of the item range. -/
theorem test_set_window :
    let w : RawWindow := { window := 15, enabled := 1, base := 1099511562240, k := 16, cls := 1, renumber := 0, target := 77 }
    let refused := fun v => goes (exec .setWindow (linkAsked (.setWindow v))) fun t =>
      t.windows == State.reset.windows && t.link.reply.take 5 == [0x7E, 0, 2, 1, 15]
    (linkAsked (.setWindow w)).link.work = .taken .link 1 (.setWindow w)
      ∧ goes (exec .setWindow (linkAsked (.setWindow w))) (fun t => t.windows[15] ==
          { enabled := true, base := 1099511562240, k := 16, cls := .lending, target := none }) = true
      ∧ refused { w with window := 5, base := 1000000 } = true
      ∧ refused { w with window := 5, base := 0, k := 20, renumber := 1, target := 524288 } = true
      ∧ refused { w with window := 5, base := 0, k := 20, renumber := 1, target := 1048576, cls := 5 } = true
      ∧ refused { w with window := 16 } = true ∧ refused { w with k := 33 } = true := by decide +kernel

theorem test_set_rights :
    let run := fun d c r => exec .setRights (linkAsked (.setRights d c r))
    (linkAsked (.setRights 15 16 4)).link.work = .taken .link 1 (.setRights 15 16 4)
      ∧ goes (run 15 16 4) (fun t => t.rights[14][16] == .both && t.rights[14][15] == .none && t.rights[13][16] == .none) = true
      ∧ goes (run 1 255 2) (fun t => (List.finRange 17).all fun c => t.rights[0][c] == .issue) = true
      ∧ goes (run 0 16 4) (fun t => t.rights == State.reset.rights) = true
      ∧ goes (run 16 0 1) (fun t => t.rights == State.reset.rights) = true
      ∧ goes (run 1 17 1) (fun t => t.rights == State.reset.rights) = true
      ∧ goes (run 1 0 5) (fun t => t.rights == State.reset.rights) = true := by decide +kernel

def lane5 : RawLane :=
  { lane := 5, bandGroup := 3, sweepMode := 1, halfCycle := 1, roundTime := 60, roundTimeout := 70, retryLimit := 3, tenure := 15,
    confirmationCount := 8, missLimit := 15, grace := 3000, verify := 0, outerOnly := 2, faultPolicy := 2, soundingTime := 60 }

/-- 10 section 10.9: a round timeout of 60 ms is refused beside a round time of 60 ms, one of 70 is taken. -/
theorem test_set_lane :
    (linkAsked (.setLane lane5)).link.work = .taken .link 1 (.setLane lane5) ∧ (State.reset.lane 5).state = .disabled
      ∧ goes (exec .setLane (linkAsked (.setLane lane5))) (fun t => (t.lane 5).settings.roundTimeout == 70
          && (t.lane 5).settings.bandGroup == 3 && !(t.lane 5).settings.verify && (t.lane 4) == State.reset.lane 4) = true
      ∧ goes (exec .setLane (linkAsked (.setLane { lane5 with roundTimeout := 60 })))
          (fun t => t.lanes == State.reset.lanes && t.link.reply.take 5 == [0x7E, 0, 2, 1, 15]) = true
      ∧ goes (exec .setLane (linkAsked (.setLane { lane5 with grace := 2950 }))) (fun t => t.lanes == State.reset.lanes) = true := by
  decide +kernel
theorem test_set_lane_tests_the_lane_first :
    goes (exec .setLane (linkAsked (.setLane { lane5 with lane := 8 })))
        (fun t => t.link.reply.take 5 == [0x7E, 0, 2, 1, 15]) = true
      ∧ goes (exec .setLane (linkAsked (.setLane { lane5 with lane := 3, roundTime := 0 }) (flying .nothing ready ready)))
          (fun t => t.link.reply.take 5 == [0x7E, 0, 2, 1, 16]) = true := by decide +kernel

/-! ## Requests -/

def wideRaw : RawOptions := { batch := 12, lanes := 0x80, allowance := 240 }

theorem test_item_requests_of_the_host :
    let run := fun k => exec ((Request.items k wideRaw [raw 5, raw 6]).command .link) (linkAsked (.items k wideRaw [raw 5, raw 6]))
    let claim := fun k => Claim.item k 5 .link { batch := some 12, lanes := some 0x80, allowance := some 240 }
    ((linkAsked (.items .hold wideRaw [raw 5, raw 6])).workOf .link = .taken .link 1 (.items .hold wideRaw [raw 5, raw 6])
        ∧ State.reset.checkItem .hold .link (raw 5) = .ok { item := 5, raw := none, cls := .lending, column := 16 })
      ∧ ∀ k ∈ [ItemKind.hold, .issue, .confirm, .cancel, .discharge, .query],
          goes (run k) (fun t => t.port.link == some (claim k)
            && match t.link.work with
              | .items _ _ _ rest _ => rest == [raw 6]
              | _ => false) = true := by decide +kernel
theorem test_load_offers_each_items_own_options :
    let x : RawItem := { item := 5, allowance := 1, lanes := 3 }
    goes (exec .load (linkAsked (.items .load plain [x]))) (fun t => t.port.link ==
      some (.item .load 5 .link { batch := none, lanes := some 3, allowance := some 1 })) = true := by decide +kernel
/-- A refused item before the one that passes (ItemRequestsOfferTheirFirstClaim). -/
theorem test_item_requests_go_past_refused_items :
    let request := Request.items .query plain [raw 0, raw 5, raw 6]
    State.reset.checkItem .query .link (raw 0) = .error .badItem
      ∧ goes (exec (.query .link) (linkAsked request)) (fun t => t.port.link == some (.item .query 5 .link noOptions)
          && t.link.work == .items .query .link noOptions [raw 6] [refusal .badItem]) = true := by decide +kernel
theorem test_item_requests_of_a_desk :
    let s := deskAsked 5 (.items .issue plain [raw 1073741900]) (deskSix)
    let behind := { s with port := { s.port with desk := some (.walk 0), deskOrphan := true } }
    s.workOf .desk = .taken (.desk 5) 1 (.items .issue plain [raw 1073741900]) ∧ s.port.desk = none ∧ behind.port.desk ≠ none
      ∧ goes (exec (.issue .desk) s) (fun t => t.port.desk == some (.item .issue 2097228 (.desk 5) noOptions)) = true
      ∧ goes (exec (.issue .desk) behind)
          (fun t => t.port.deskDeferred == some (.item .issue 2097228 (.desk 5) noOptions)) = true := by decide +kernel
theorem test_refused_requests :
    let wide : Request := .items .hold { plain with allowance := 241 } [raw 5]
    let invalid : Request := .items .hold plain [raw 0, raw 0]
    (linkAsked wide).workOf .link = .taken .link 1 wide
      ∧ [raw 0, raw 0].map (State.reset.checkItem .hold .link) = [Code.badItem, .badItem].map Except.error
      ∧ goes (exec (.hold .link) (linkAsked wide)) (fun t => t.link.reply.take 7 == [0x7E, 0, 4, 1, 15, 15, 0]
          && t.port == State.reset.port) = true
      ∧ goes (exec (.hold .link) (linkAsked invalid)) (fun t => t.link.reply.take 9 == [0x7E, 0, 6, 1, 1, 14, 0, 14, 0]) = true
      ∧ goes (exec (.badRequest .desk) (deskAsked 0 .bad)) (fun t => t.desk.reply == [17]) = true
      ∧ goes (exec (.badRequest .link) (linkAsked .bad)) (fun t => t.link.reply.take 5 == [0x7E, 0, 2, 1, 17]) = true := by
  decide +kernel
theorem test_batch_requests :
    let r : Request := .batch .confirm 65535 (some 15)
    (linkAsked r).workOf .link = .taken .link 1 r ∧ (Source.desk 14).number = 15
      ∧ goes (exec (.confirmBatch .link) (linkAsked r))
          (fun t => t.port.link == some (.batch .confirm .link (.desk 14) 65535 0) && t.link.work == .batch .confirm 0) = true
      ∧ goes (exec (.cancelBatch .desk) (deskAsked 3 (.batch .cancel 1 none)))
          (fun t => t.port.desk == some (.batch .cancel (.desk 3) (.desk 3) 1 0)) = true
      ∧ goes (exec (.cancelBatch .link) (linkAsked (.batch .cancel 0 (some 0))))
          (fun t => t.link.reply.take 5 == [0x7E, 0, 2, 6, 15]) = true
      ∧ goes (exec (.cancelBatch .link) (linkAsked (.batch .cancel 1 (some 16))))
          (fun t => t.link.reply.take 5 == [0x7E, 0, 2, 6, 15]) = true := by decide +kernel
theorem test_walk_and_clear_table_requests :
    goes (exec .walk (linkAsked (.walk 4))) (fun t => t.port.link == some (.walk 4) && t.link.work == .walk) = true
      ∧ goes (exec .clearTable (linkAsked .clearTable)) (fun t => t.port.link == some .clearTable) = true := by decide +kernel
theorem test_ack_lane :
    let log := [alarm 1 7 5 .opened 0, alarm 2 7 6 .acknowledged 0, alarm 3 6 5 .opened 0]
    let s := deskAsked 2 (.ackLane 7) (standing 2 900 (logged log (atTime 50)))
    s.workOf .desk = .taken (.desk 2) 1 (.ackLane 7) ∧ s.standing[2] ≠ none ∧ (s.setStanding 2 none).standing[2] = none
      ∧ goes (exec (.ackLane .desk) s) (fun t => t.log.records.map AlarmRecord.state == [.acknowledged, .acknowledged, .opened]
          && t.log.records.map AlarmRecord.closedBy == [some (.desk 2), none, none] && t.desk.reply == [1, 1]) = true
      ∧ goes (exec (.ackLane .desk) (s.setStanding 2 none)) (fun t => t.desk.reply == [9] && t.log == s.log) = true
      ∧ goes (exec (.ackLane .link) (linkAsked (.ackLane 8))) (fun t => t.link.reply.take 5 == [0x7E, 0, 2, 1, 15]) = true := by
  decide +kernel

/-! ## Claims -/

theorem test_ring :
    let p := { (claimed .query .link 5 (claimed .query (.desk 0) 5 State.reset)).port with judge := some (5, 0), expiry := some 5 }
    p.turn = some .desk ∧ { p with lastServed := .desk }.turn = some .link ∧ { p with lastServed := .link }.turn = some .judge
      ∧ { p with lastServed := .judge }.turn = some .expiry ∧ ringAfter .expiry = [] ++ Claimant.desk :: [.link, .judge, .expiry] := by
  decide +kernel
theorem test_worked_items :
    State.reset.checkItem .query .link (raw 0) = .error .badItem
      ∧ State.reset.checkItem .query .link (raw 5) = .ok { item := 5, raw := none, cls := .lending, column := 16 }
      ∧ (State.reset.workItems .link .query .link noOptions [raw 0, raw 5] []).port.link =
          some (.item .query 5 .link noOptions) := by decide +kernel

theorem test_hold_claims_without_an_entry :
    let s := claimed .hold (.desk 0) 7 State.reset
    s.port.nextRequest = some (.desk, .item .hold 7 (.desk 0) noOptions) ∧ s.port.deskOrphan = false
      ∧ s.workOf .desk = .items .hold (.desk 0) noOptions [] [] ∧ s.findEntry 7 = none ∧ s.pendingCount (.desk 0) < 32
      ∧ goes (exec .holdClaim s) (fun t => t.desk.reply == [1, 1, 0] && t.pendingCount (.desk 0) == 1
          && (t.findEntry 7).map Entry.due == some 20000 && t.judge.inbox == [.notice 7 .pending]) = true
      ∧ (let full := { s with table := { s.table with pendingCounts := s.table.pendingCounts.set 1 32 } }
         32 ≤ full.pendingCount (.desk 0)
           ∧ goes (exec .holdClaim full) (fun t => t.table == full.table && t.desk.reply == [12, 12, 0]) = true) := by decide +kernel
theorem test_hold_claims_on_an_entry :
    let s := fun e => claimed .hold (.desk 0) 7 (holding [e])
    (s (entry 7 .pending (.desk 0) 9)).findEntry 7 = some (entry 7 .pending (.desk 0) 9)
      ∧ goes (exec .holdClaim (s (entry 7 .pending (.desk 0) 9))) (fun t => (t.findEntry 7).map Entry.batch == some none
          && (t.findEntry 7).map Entry.due == some 20000) = true
      ∧ goes (exec .holdClaim (s (entry 7 .pending .link 9))) (fun t => t.desk.reply == [5, 5, 0]) = true
      ∧ goes (exec .holdClaim (s (entry 7 .cleared (.desk 0) 9))) (fun t => t.desk.reply == [4, 4, 0]) = true
      ∧ goes (exec .holdClaim (s (entry 7 .departed (.desk 0) 9))) (fun t => t.desk.reply == [4, 4, 0]) = true := by decide +kernel

/-- 03 section 3.10: the first claim of desk 6's frame, with the item held at the gate. -/
theorem test_issue_claim_without_an_entry :
    let s := claimed .issue (.desk 5) 2097228 (judging [judgement 2097228 2 .heldAbsent] [] none (atTime 1500040))
    s.port.nextRequest = some (.desk, .item .issue 2097228 (.desk 5) noOptions) ∧ s.settling 2097228 = none
      ∧ goes (exec .issueClaim s) (fun t => t.desk.reply == [1, 1, 1] && (t.findEntry 2097228).map Entry.due == some 3300040
          && t.judge.inbox == [.notice 2097228 .cleared]) = true := by decide +kernel
/-- An alarm that could be settled has no part in a claim on a CLEARED entry or by another source. -/
theorem test_claims_that_settle_nothing_beside_an_alarm :
    let s := fun st => holding [entry 5 st (.desk 5) 9] (logged [alarm 1 3 5 .opened 5] (atTime 8))
    (s .cleared).settling 5 = some (alarm 1 3 5 .opened 5)
      ∧ goes (exec .issueClaim (claimed .issue (.desk 5) 5 (s .cleared))) (fun t => t.desk.reply == [2, 2, 2]) = true
      ∧ goes (exec .confirmClaim (claimed .confirm (.desk 5) 5 (s .departed))) (fun t => t.desk.reply == [4, 4, 2]) = true
      ∧ goes (exec .issueClaim (claimed .issue (.desk 4) 5 (s .pending))) (fun t => t.desk.reply == [5, 5, 2]) = true
      ∧ goes (exec .confirmClaim (claimed .confirm (.desk 4) 5 (s .pending))) (fun t => t.desk.reply == [6, 6, 2]) = true := by
  decide +kernel
theorem test_issue_and_confirm_claims_on_entries :
    let pending := holding [entry 5 .pending (.desk 5) 9] (atTime 8)
    let cleared := holding [entry 5 .cleared (.desk 5) 9] (atTime 1500055)
    goes (exec .issueClaim (claimed .issue (.desk 5) 5 pending)) (fun t => t.pendingCount (.desk 5) == 0
        && (t.findEntry 5).map Entry.stage == some .cleared) = true
      ∧ goes (exec .issueClaim (claimed .issue (.desk 4) 5 pending)) (fun t => t.desk.reply == [5, 5, 0]) = true
      ∧ goes (exec .issueClaim (claimed .issue (.desk 5) 5 cleared)) (fun t => t.desk.reply == [2, 2, 0]
          && (t.findEntry 5).map Entry.due == some 3300055) = true
      ∧ goes (exec .confirmClaim (claimed .confirm .link 6 pending)) (fun t => t.link.reply.take 7 == [0x7E, 0, 4, 3, 7, 7, 0]) = true
      ∧ goes (exec .confirmClaim (claimed .confirm .link 5 pending)) (fun t => (t.findEntry 5).map Entry.stage == some .cleared) = true
      ∧ goes (exec .confirmClaim (claimed .confirm (.desk 4) 5 pending)) (fun t => t.desk.reply == [6, 6, 0]) = true
      ∧ goes (exec .confirmClaim (claimed .confirm (.desk 4) 5 cleared)) (fun t => t.desk.reply == [4, 4, 0]) = true := by
  decide +kernel

/-- 03 section 3.10, a late issue, at 2,041,500, at the last millisecond of the late window and one later. -/
theorem test_late_issue :
    let s := fun now => claimed .issue (.desk 1) 5000 (logged [alarm 117 3 5000 .opened 2000000] (atTime now))
    (s 2041500).settling 5000 = some (alarm 117 3 5000 .opened 2000000) ∧ (s 2041500).findEntry 5000 = none
      ∧ goes (exec .issueClaim (s 2041500)) (fun t => t.desk.reply == [3, 3, 0] && t.findEntry 5000 ==
          some { item := 5000, stage := .departed, source := .desk 1, batch := none, lanes := none, allowance := 30,
                 created := 2041500, due := 2341500, exits := 1, lastLane := some 3 }
          && t.log.records.map AlarmRecord.closedAt == [some 2041500]) = true
      ∧ goes (exec .issueClaim (s 2060000)) (fun t => t.desk.reply == [3, 3, 0]) = true
      ∧ goes (exec .issueClaim (s 2060001)) (fun t => t.desk.reply == [1, 1, 2]
          && (t.findEntry 5000).map Entry.due == some 3860001) = true := by decide +kernel
theorem test_settling_claims_on_a_pending_entry :
    let s := claimed .confirm .link 5 (holding [entry 5 .pending (.desk 0) 9] (logged [alarm 1 3 5 .acknowledged 0, alarm 2 3 5 .opened 5]
      (atTime 8)))
    let gone := { s with hall := { s.hall with leeway := 0 } }
    s.settling 5 = some (alarm 2 3 5 .opened 5)
      ∧ goes (exec .confirmClaim s) (fun t => (t.findEntry 5).map Entry.stage == some .departed && t.pendingCount (.desk 0) == 0
          && t.log.records.map AlarmRecord.state == [.acknowledged, .settled] && t.judge.inbox == [.notice 5 .pendingGone]) = true
      ∧ goes (exec .confirmClaim gone) (fun t => t.table.entries == [] && t.pendingCount (.desk 0) == 0) = true
      ∧ goes (exec .confirmClaim { claimed .confirm .link 6 s with hall := gone.hall }) (fun t => t.findEntry 6 == none) = true := by
  decide +kernel

theorem test_cancel_claims :
    let s := fun st => holding [entry 5 st (.desk 5) 9]
    goes (exec .cancelClaim (claimed .cancel (.desk 5) 6 (s .pending))) (fun t => t.desk.reply == [7, 7, 0]) = true
      ∧ goes (exec .cancelClaim (claimed .cancel (.desk 4) 5 (s .pending))) (fun t => t.desk.reply == [6, 6, 0]) = true
      ∧ goes (exec .cancelClaim (claimed .cancel (.desk 5) 5 (s .pending))) (fun t => t.table.entries == []
          && t.pendingCount (.desk 5) == 0 && t.judge.inbox == [.notice 5 .pendingGone]) = true
      ∧ goes (exec .cancelClaim (claimed .cancel (.desk 5) 5 (s .departed))) (fun t => t.desk.reply == [4, 4, 0]) = true := by
  decide +kernel
theorem test_discharge_claims :
    let s := fun st => holding [entry 5 st (.desk 5) 9]
    goes (exec .dischargeClaim (claimed .discharge (.desk 5) 6 (s .cleared))) (fun t => t.desk.reply == [7, 7, 0]) = true
      ∧ goes (exec .dischargeClaim (claimed .discharge (.desk 5) 5 (s .pending))) (fun t => t.desk.reply == [5, 5, 0]) = true
      ∧ goes (exec .dischargeClaim (claimed .discharge (.desk 4) 5 (s .cleared))) (fun t => t.table.entries == []
          && t.desk.reply == [1, 1, 0]) = true := by decide +kernel
theorem test_query_claims :
    let s := holding [entry 5 .cleared (.desk 5) 9]
    goes (exec .queryClaim (claimed .query (.desk 0) 6 s)) (fun t => t.desk.reply == [7, 7, 0]) = true
      ∧ goes (exec .queryClaim (claimed .query (.desk 0) 5 s)) (fun t => t.table == s.table && t.desk.reply.length == 23) = true := by
  decide +kernel
theorem test_load_claims :
    let s := fun es => claimed .load .link 5 (holding es)
    goes (exec .loadClaim (s [])) (fun t => (t.findEntry 5).map Entry.source == some .link) = true
      ∧ goes (exec .loadClaim (s [entry 5 .pending .link 9])) (fun t => t.link.reply.take 7 == [0x7E, 0, 4, 9, 1, 5, 0]) = true
      ∧ goes (exec .loadClaim (s [entry 5 .departed (.desk 0) 9])) (fun t => (t.findEntry 5).map Entry.batch == some (some 12)
          && t.link.reply.take 7 == [0x7E, 0, 4, 9, 1, 2, 0]) = true := by decide +kernel

/-- A table of `size` entries, one of them (item 2) in the stage `st`, the others CLEARED. -/
def manyEntries (size : Nat) (st : Stage) : List Entry :=
  (List.range size).map fun n => entry (n + 1) (if n = 1 then st else .cleared) .link (5000 - n)

theorem mem_manyEntries {size : Nat} {st : Stage} {e : Entry} (h : e ∈ manyEntries size st) :
    e.item ≤ size ∧ (e.stage = .departed → e = entry 2 .departed .link 4999 ∧ st = .departed) := by
  obtain ⟨n, hn, rfl⟩ := List.mem_map.mp h
  refine ⟨List.mem_range.mp hn, fun hd => ?_⟩
  have hd : (if n = 1 then st else Stage.cleared) = .departed := hd
  by_cases h1 : n = 1
  · rw [if_pos h1] at hd
    subst h1 hd
    exact ⟨rfl, rfl⟩
  · rw [if_neg h1] at hd
    cases hd

theorem manyEntries_ordered (size : Nat) (st : Stage) : (holding (manyEntries size st)).tableOrdered := by
  show List.Pairwise _ (List.map _ _)
  rw [List.pairwise_map]
  exact List.pairwise_lt_range.imp fun h => Nat.succ_lt_succ h

theorem manyEntries_room {size : Nat} (h : size < 9000) (st : Stage) :
    let s := claimed .load .link 9000 (holding (manyEntries size st))
    s.port.nextRequest = some (.link, .item .load 9000 .link noOptions) ∧ s.findEntry 9000 = none ∧ s.settling 9000 = none
      ∧ s.tableOrdered ∧ s.table.entries.length = size
      ∧ (∀ e ∈ s.table.entries, e.stage = .departed → e = entry 2 .departed .link 4999 ∧ st = .departed)
      ∧ (1 < size → st = .departed → entry 2 .departed .link 4999 ∈ s.table.entries) := by
  refine ⟨rfl, List.find?_eq_none.mpr fun e he => ?_, rfl, manyEntries_ordered size st, ?_, fun e he => (mem_manyEntries he).2,
    fun h hst => hst ▸ List.mem_map.mpr ⟨1, List.mem_range.mpr h, rfl⟩⟩
  · have := (mem_manyEntries he).1
    simp only [Item] at *
    simp only [beq_iff_eq]
    omega
  · show (manyEntries size st).length = size
    rw [manyEntries, List.length_map, List.length_range]

/-- AFullTableEvictsOrRefuses, with the one DEPARTED entry that is evicted, and with none. -/
theorem test_witness_full_table :
    let s := fun st => claimed .load .link 9000 (holding (manyEntries 4096 st))
    (∀ st, (s st).port.nextRequest = some (.link, .item .load 9000 .link noOptions) ∧ (s st).findEntry 9000 = none
        ∧ (s st).settling 9000 = none ∧ (s st).tableOrdered ∧ (s st).table.entries.length = 4096)
      ∧ entry 2 .departed .link 4999 ∈ (s .departed).table.entries
      ∧ (∀ e ∈ (s .departed).table.entries, e.stage = .departed → e = entry 2 .departed .link 4999)
      ∧ ∀ e ∈ (s .cleared).table.entries, e.stage ≠ .departed := by
  have room := fun st => manyEntries_room (size := 4096) (by decide) st
  refine ⟨fun st => ⟨(room st).1, (room st).2.1, (room st).2.2.1, (room st).2.2.2.1, (room st).2.2.2.2.1⟩, ?_,
    fun e he hd => ((room .departed).2.2.2.2.2.1 e he hd).1, fun e he hd => ?_⟩
  · exact (room .departed).2.2.2.2.2.2 (by decide) rfl
  · cases ((room .cleared).2.2.2.2.2.1 e he hd).2

/-- The settling claim of AFullTableEvictsOrRefuses: the alarm of an absent item beside a full table. -/
theorem test_witness_settling_claim_with_a_full_table :
    let s := fun st => claimed .issue .link 9000 (logged [alarm 1 3 9000 .opened 5] (holding (manyEntries 4096 st) (atTime 8)))
    ∀ st, (s st).port.nextRequest = some (.link, .item .issue 9000 .link noOptions)
      ∧ (s st).settling 9000 = some (alarm 1 3 9000 .opened 5) ∧ (s st).hall.leeway ≠ 0
      ∧ (s st).table = (holding (manyEntries 4096 st)).table :=
  fun _ => ⟨rfl, rfl, nofun, rfl⟩

/-- 02 section 2.6, the second order: CONFIRM, QUERY, JUDGE and the void expiry claim, and the JUDGE claim's other answers. -/
theorem test_judge_claims :
    let s := fun st (lanes : Option LaneSet) =>
      let s := holding [{ entry 2097228 st (.desk 3) 2612000 with lanes := lanes }] (atTime 812000)
      { s with port := { s.port with lastServed := .link, judge := some (2097228, 5) } }
    let run := fun s => exec .judge s
    (s .cleared none).port.turn = some .judge ∧ (s .cleared none).port.judge = some (2097228, 5)
      ∧ goes (run (s .cleared none)) (fun t => (t.findEntry 2097228).map (fun e => (e.stage, e.exits, e.lastLane, e.due)) ==
          some (.departed, 1, some 5, 1112000) && t.judge.inbox == [.answer 2097228 .pass]) = true
      ∧ goes (run (s .departed (some 0xDF))) (fun t => t.judge.inbox == [.answer 2097228 .wrongLane]) = true
      ∧ goes (run (s .pending none)) (fun t => t.judge.inbox == [.answer 2097228 .pending]) = true
      ∧ goes (run { s .cleared none with table := ClearanceTable.reset }) (fun t => t.judge.inbox == [.answer 2097228 .absent])
          = true := by decide +kernel

theorem test_due_time_reached :
    let s := holding [entry 3 .cleared .link 9, entry 4 .pending .link 9, entry 5 .cleared .link 8, entry 6 .cleared .link 11]
      (atTime 10)
    s.port.expiry = none ∧ s.dueEvent = some .dueTimeReached
      ∧ goes (exec .dueTimeReached s) (fun t => t.port.expiry == some 5) = true
      ∧ goes (exec .dueTimeReached (s.dropEntry 5)) (fun t => t.port.expiry == some 3) = true := by decide +kernel
/-- 02 section 2.6, the first order: the PENDING entry of source 4 lapses at its due time. -/
theorem test_expiry_claims :
    let s := fun st due =>
      let s := holding [entry 2097228 st (.desk 3) due] (atTime 812000)
      { s with port := { s.port with lastServed := .link, expiry := some 2097228 } }
    (s .pending 812000).port.turn = some .expiry
      ∧ goes (exec .expiryClaim (s .pending 812000)) (fun t => t.table.entries == [] && t.table.lapsed == 1
          && t.pendingCount (.desk 3) == 0 && t.judge.inbox == [.notice 2097228 .pendingGone]) = true
      ∧ goes (exec .expiryClaim (s .cleared 812000)) (fun t => t.table.entries == [] && t.table.expired == 1) = true
      ∧ goes (exec .expiryClaim (s .departed 812000)) (fun t => t.table.entries == [] && t.table.expired == 0) = true
      ∧ goes (exec .expiryClaim (s .cleared 812001)) (fun t => t.table == (s .cleared 812001).table && t.port.expiry == none)
          = true := by decide +kernel

theorem test_batch_claims :
    let es := [entry 5 .pending (.desk 5) 9, entry 6 .pending (.desk 4) 9, entry 7 .pending (.desk 5) 9]
    let s := fun k cursor count => batched k (.desk 5) 12 cursor count (holding es (atTime 8))
    (s .confirm 5 254).port.nextRequest = some (.link, .batch .confirm .link (.desk 5) 12 5)
      ∧ (holding es).batchAllows .link (entry 7 .pending (.desk 5) 9) = true
      ∧ goes (exec .confirmBatchClaim (s .confirm 4 0)) (fun t => (t.findEntry 5).map Entry.stage == some .cleared
          && t.port.link == some (.batch .confirm .link (.desk 5) 12 5) && t.link.work == .batch .confirm 1) = true
      ∧ goes (exec .confirmBatchClaim (s .confirm 5 254)) (fun t => t.link.reply.take 6 == [0x7E, 0, 3, 5, 1, 255]) = true
      ∧ goes (exec .cancelBatchClaim (s .cancel 0 0)) (fun t => t.findEntry 5 == none && t.pendingCount (.desk 5) == 1) = true
      ∧ goes (exec .cancelBatchClaim (s .cancel 7 2)) (fun t => t.link.reply.take 6 == [0x7E, 0, 3, 6, 1, 2]) = true := by
  decide +kernel
theorem test_confirm_batch_of_a_desk_checks_each_entry :
    let s := holding [entry 5 .pending (.desk 5) 9]
    let s := { s with port := { s.port with desk := some (.batch .confirm (.desk 5) (.desk 5) 12 0) }
                      desk := { s.desk with state := .working, work := .batch .confirm 0 } }
    s.port.nextRequest = some (.desk, .batch .confirm (.desk 5) (.desk 5) 12 0)
      ∧ s.batchAllows (.desk 5) (entry 5 .pending (.desk 5) 9) = false
      ∧ (deskSix s).batchAllows (.desk 5) (entry 5 .pending (.desk 5) 9) = true
      ∧ goes (exec .confirmBatchClaim s) (fun t => t.table == s.table && t.desk.work == .batch .confirm 0) = true := by
  decide +kernel

theorem test_walk_claims :
    let s := holding ((List.range 18).map fun n => entry (n + 1) .cleared .link 9)
    let s := fun cursor => { s with port := { s.port with link := some (.walk cursor) }, link := { s.link with work := .walk } }
    (s 1).port.nextRequest = some (.link, .walk 1)
      ∧ goes (exec .walkClaim (s 1)) (fun t => t.link.reply.take 11 == [0x7E, 0x01, 0x93, 10, 1, 16, 0, 0, 0, 0, 2]
          && t.table == (s 1).table) = true
      ∧ goes (exec .walkClaim (s 18)) (fun t => t.link.reply.take 6 == [0x7E, 0, 3, 10, 1, 0]) = true := by decide +kernel
theorem test_clear_table_claims :
    let s := holding [entry 5 .pending .link 9, entry 6 .cleared .link 9, entry 7 .pending (.desk 0) 9]
    let s := { s with port := { s.port with link := some .clearTable }, link := { s.link with work := .clearTable } }
    s.port.nextRequest = some (.link, .clearTable) ∧ (∀ l, (s.lane l).state = .disabled)
      ∧ goes (exec .clearTableClaim s) (fun t => t.table == ClearanceTable.reset
          && t.judge.inbox == [.notice 5 .pendingGone, .notice 7 .pendingGone]) = true
      ∧ goes (exec .clearTableClaim (withLane 7 (fun x => { x with state := .stopped }) s))
          (fun t => t.table == s.table && t.link.reply.take 5 == [0x7E, 0, 2, 11, 16]) = true := by decide +kernel

/-! ## Lanes and heads -/

theorem test_enable_lane :
    let run := fun l s => exec .enableLane (linkAsked (.enableLane l) s)
    (linkAsked (.enableLane 7)).link.work = .taken .link 1 (.enableLane 7)
      ∧ goes (run 7 State.reset) (fun t => (t.lane 7).state == .starting && (t.lane 7).inner.identOut && (t.lane 7).lamp == .amber)
          = true
      ∧ goes (run 8 State.reset) (fun t => t.lanes == State.reset.lanes && t.link.reply.take 5 == [0x7E, 0, 2, 1, 15]) = true
      ∧ goes (run 3 (flying .nothing ready ready)) (fun t => t.link.reply.take 5 == [0x7E, 0, 2, 1, 16]) = true := by decide +kernel
/-- 10 section 10.9: lane 5 is disabled while it owns a judgement in HELD_ABSENT. -/
theorem test_disable_lane :
    let s := linkAsked (.disableLane 5) (withLane 5 (fun x => { x with state := .inService, lamp := .amber })
      (judging [judgement 7 5 .heldAbsent, judgement 8 4 .asking] [] none))
    s.workOf .link = .taken .link 1 (.disableLane 5) ∧ (s.lane 5).state ≠ .disabled
      ∧ goes (exec .disableLane s) (fun t => (t.lane 5).state == .disabled && (t.lane 5).lamp == .off
          && (t.lane 5).counts.dropped == 1 && t.judge.entries == [judgement 8 4 .asking]) = true
      ∧ goes (exec .disableLane (linkAsked (.disableLane 0))) (fun t => t.lanes == State.reset.lanes
          && t.link.reply.take 5 == [0x7E, 0, 2, 1, 1]) = true
      ∧ goes (exec .disableLane (linkAsked (.disableLane 8))) (fun t => t.link.reply.take 5 == [0x7E, 0, 2, 1, 15]) = true := by
  decide +kernel
theorem test_restart_lane :
    let s := deskAsked 0 (.restartLane 3) (standing 0 9 (flying (.rounds .paired none none) (waiting (.round 58 40) 58)
      (waiting (.round 212 40) 212)))
    s.workOf .desk = .taken (.desk 0) 1 (.restartLane 3) ∧ s.standing[0] ≠ none ∧ (s.lane 3).state ≠ .disabled
      ∧ goes (exec (.restartLane .desk) s) (fun t => (t.lane 3).state == .starting && (t.lane 3).outer.seq == 212
          && (t.lane 3).outer.identOut && (t.lane 3).counts.abortedRounds == 2 && (t.arbiter 1).band == .guarding) = true
      ∧ goes (exec (.restartLane .desk) (s.setStanding 0 none)) (fun t => t.lanes == s.lanes && t.desk.reply == [9]) = true
      ∧ goes (exec (.restartLane .link) (linkAsked (.restartLane 8))) (fun t => t.link.reply.take 5 == [0x7E, 0, 2, 1, 15]) = true := by
  decide +kernel
def probeCode : TagCode := { mark := 1, item := 5 }

/-- Lane `l` waits for the band of group 1, urgently where it has probes. -/
def asking (l : LaneId) (probes : List ProbeEntry) (s : State) : State :=
  withLane l (fun x => { x with
    state := .inService, settings := { x.settings with bandGroup := 1 }, ask := true, probes := probes
    inner := ready x.inner, outer := ready x.outer }) s

/-- Lane 3 holds the band with a round out on each head, the guard gap is 0, and its restart has been taken. -/
def restartingWithoutGap : State :=
  linkAsked (.restartLane 3) (flying (.rounds .paired none none) (waiting (.round 58 40) 58) (waiting (.round 212 40) 212) id
    { State.reset with hall := { State.reset.hall with guardGap := 0 } })

/-- The band goes to a waiting lane at once, urgent asks first, or is free (LanesLeaveServiceWhole). -/
theorem test_restart_lane_without_a_guard_gap :
    let band := fun (s : State) (b : BandCondition) => goes (exec (.restartLane .link) s) fun t =>
      (t.arbiter 1).band == b && (t.lane 3).counts.abortedRounds == 2 && t.arbiter 0 == s.arbiter 0
    restartingWithoutGap.holds 3 = true ∧ (restartingWithoutGap.lane 3).state ≠ .disabled ∧ band restartingWithoutGap .free = true
      ∧ band (asking 2 [] (asking 7 [] restartingWithoutGap)) (.held 7) = true
      ∧ band (asking 2 [{ code := probeCode, item := 5 }] (asking 7 [] restartingWithoutGap)) (.held 2) = true := by decide +kernel
theorem test_restart_lane_of_a_disabled_lane :
    goes (exec (.restartLane .link) (linkAsked (.restartLane 0))) (fun t => (t.lane 0).state == .starting) = true := by
  decide +kernel

/-- Lane 3 is STARTING; its inner head awaits IDENT, its outer head is in the given state. -/
def identifying (other : HeadState) (policy : FaultPolicy) : State :=
  withLane 3 fun x => { x with
    state := .starting
    settings := { x.settings with faultPolicy := policy }
    inner := { x.inner with outstanding := some { command := .ident, sentAt := 0 }, failures := 2 }
    outer := { x.outer with state := other } }

theorem test_ident_replies :
    let run := fun other policy position => exec (.identReply 3 .inner (message [5, position])) (identifying other policy)
    parseHeadMessage (message [5, 1]) = some (.ident .inner) ∧ parseHeadMessage (message [5, 2]) = some (.ident .outer)
      ∧ ((identifying .unknown .single).lane 3).inner.identOut = true
      ∧ goes (run .unknown .single 1) (fun t => (t.lane 3).state == .starting && (t.lane 3).inner.state == .ready
          && (t.lane 3).inner.failures == 0) = true
      ∧ goes (run .unknown .single 2) (fun t => (t.lane 3).inner.state == .faulted && (t.lane 3).inner.failures == 2) = true
      ∧ goes (run .ready .stop 1) (fun t => (t.lane 3).state == .inService && (t.arbiter 1).band == .held 3
          && (t.lane 3).inner.seq == 1) = true
      ∧ goes (run .faulted .single 1) (fun t => (t.lane 3).state == .single && t.link.notices.fault && t.link.noticeLine) = true
      ∧ goes (run .ready .stop 2) (fun t => (t.lane 3).state == .stopped && t.link.notices.fault) = true
      ∧ goes (run .faulted .single 2) (fun t => (t.lane 3).state == .stopped) = true := by decide +kernel

/-- A lane that enters service asks: it is granted a FREE band and begins, or waits beside a holder. -/
theorem test_lanes_ask_as_they_enter_service :
    let held := fun (s : State) => s.setBand 1 { band := .held 2, tenureCount := 1, guardEnd := 0, lastHolder := some 2 }
    let run := fun s position => exec (.identReply 3 .inner (message [5, position])) s
    let s := identifying .ready .single
    s.holds 3 = false ∧ (held s).holds 3 = false ∧ (s.arbiter 1).band = .free ∧ ((held s).arbiter 1).band ≠ .free
      ∧ goes (run s 1) (fun t => t.arbiter 1 == { band := .held 3, tenureCount := 1, guardEnd := 0, lastHolder := some 3 }
          && (t.lane 3).inner.sent == [.round 1 40] && (t.lane 3).flight == .rounds .alternate none none) = true
      ∧ goes (run s 2) (fun t => (t.lane 3).outer.sent == [.round 1 40] && (t.lane 3).flight == .rounds (.single .outer) none none) = true
      ∧ goes (run (held s) 1) (fun t => (t.lane 3).ask && (t.lane 3).state == .inService && (t.arbiter 1).band == .held 2) = true := by
  decide +kernel

/-- 04 section 4.8: the inner head's report 58 is taken, and the report 212 of a head that awaits nothing is stale. -/
theorem test_round_report_of_the_example :
    let s := flying (.rounds .paired none none) (waiting (.round 58 40) 58) (waiting (.round 212 40) 212) (s := atTime 43)
    parseHeadMessage (message [6, 58, 0, 0]) = some (.round 58 false []) ∧ (s.lane 3).inner.awaited = some (true, 58)
      ∧ (s.lane 3).flight = .rounds .paired none none
      ∧ goes (exec (.roundReport 3 .inner (message [6, 58, 0, 0])) s) (fun t => (t.lane 3).inner.state == .ready
          && (t.lane 3).outer == (s.lane 3).outer && (t.lane 3).flight ==
            .rounds .paired (some { head := .inner, codes := [], lossy := false, endTime := 43 }) none) = true
      ∧ goes (exec (.roundReport 3 .inner (message [6, 59, 0, 0])) s) (fun t => (t.lane 3).inner.stale == 1
          && (t.lane 3).flight == (s.lane 3).flight) = true := by decide +kernel
/-- Complete cycles of each form, with an overflowing report of one tag code. -/
theorem test_round_reports_complete_cycles :
    let half : Half := { head := .inner, codes := [], lossy := false, endTime := 9 }
    let m := message [6, 1, 1, 1, 0, 1, 0, 0, 0, 0, 5]
    let s := fun f => flying f ready (waiting (.round 1 40) 1)
    let run := fun f => exec (.roundReport 3 .outer m) (s f)
    parseHeadMessage m = some (.round 1 true [{ mark := 1, item := 5 }]) ∧ ((s .nothing).lane 3).outer.awaited = some (true, 1)
      ∧ (∀ f ∈ [Flight.rounds .paired (some half) none, .rounds .alternate none none, .rounds (.single .outer) none none],
          goes (run f) (fun t => (t.lane 3).reports.length == 1 && (t.lane 3).counts.cycles == 1
            && (t.lane 3).counts.lossyRounds == 1 && (t.lane 3).flight != .nothing) = true)
      ∧ goes (exec (.roundReport 3 .inner (message [6, 1, 0, 0]))
          (flying (.rounds .paired none (some { half with head := .outer })) (waiting (.round 1 40) 1) ready))
          (fun t => (t.lane 3).reports.length == 1) = true := by decide +kernel
/-- After a complete cycle the holder starts the next one, its tenure count rising to 15, or the queued probe. -/
theorem test_holders_go_on :
    let s := fun probes count => (flying (.rounds .alternate none none) ready (waiting (.round 1 40) 1) fun x => { x with probes := probes })
      |>.setBand 1 { band := .held 3, tenureCount := count, guardEnd := 0, lastHolder := some 3 }
    let run := fun probes count => exec (.roundReport 3 .outer (message [6, 1, 0, 0])) (s probes count)
    goes (run [] 1) (fun t => (t.lane 3).inner.sent == [.round 1 40] && (t.arbiter 1).tenureCount == 2
        && (t.lane 3).flight == .rounds .alternate none none) = true
      ∧ goes (run [] 15) (fun t => (t.arbiter 1).tenureCount == 15 && (t.lane 3).inner.roundOut) = true
      ∧ goes (run [{ code := { mark := 1, item := 5 }, item := 5 }] 1) (fun t => (t.arbiter 1).tenureCount == 1
          && (t.lane 3).reports.length == 1 && (t.lane 3).inner.sent == [.probe 1 { mark := 1, item := 5 }]) = true := by decide +kernel
/-- Lane 2 waits beside the holder, urgently or with the tenure used up: the holder gives way and asks again, and a broken
cycle keeps its inner half under CONTINUE and loses it under RESTART. -/
theorem test_holders_give_way :
    let other := fun probes s => withLane 2 (fun x => { x with state := .inService, ask := true, probes := probes }) s
    let s := fun probes (tenure : Nat) (policy : HalfCyclePolicy) => other probes (flying (.rounds .alternate none none) (waiting (.round 1 40) 1) ready fun x =>
      { x with settings := { x.settings with tenure := tenure, halfCycle := policy } })
    let run := fun probes tenure policy => exec (.roundReport 3 .inner (message [6, 1, 0, 0])) (s probes tenure policy)
    let atOnce := { s [] 1 .restart with hall := { (s [] 1 .restart).hall with guardGap := 0 } }
    let gaveWay := fun (t : State) => (t.arbiter 1).band == .guarding && (t.arbiter 1).guardEnd == 5 && (t.lane 3).ask
      && (t.lane 3).flight == .nothing
    ((s [] 1 .continue).lane 3).probes = [] ∧ ((s [] 1 .continue).lane 3).ask = false ∧ (s [] 1 .continue).groupOf 2 = (s [] 1 .continue).groupOf 3
      ∧ goes (run [] 1 .continue) (fun t => gaveWay t && (t.lane 3).buffer.isSome) = true
      ∧ goes (run [] 1 .restart) (fun t => gaveWay t && (t.lane 3).buffer.isNone) = true
      ∧ goes (run [{ code := { mark := 1, item := 5 }, item := 5 }] 15 .continue) gaveWay = true
      ∧ (atOnce.lane 3).ask = false
      ∧ goes (exec (.roundReport 3 .inner (message [6, 1, 1, 0])) atOnce) (fun t => (t.arbiter 1).band == .held 2 && (t.lane 3).ask
          && (t.lane 3).flight == .nothing && (t.lane 3).buffer.isNone && (t.lane 3).counts.lossyRounds == 1) = true := by
  decide +kernel
theorem test_round_report_of_an_alternate_inner_half :
    let s := flying (.rounds .alternate none none) (waiting (.round 1 40) 1) ready
    (s.lane 3).probes = [] ∧ (s.lane 3).outer.working = true
      ∧ (∀ m, m ≠ 3 → (s.lane m).ask = true → s.groupOf m ≠ s.groupOf 3)
      ∧ goes (exec (.roundReport 3 .inner (message [6, 1, 0, 0])) s) (fun t => (t.lane 3).outer.seq == 1
          && (t.lane 3).buffer.isSome && (t.lane 3).outer.roundOut && (t.arbiter 1).tenureCount == 2) = true
      ∧ goes (exec (.roundReport 3 .inner (message [6, 1, 1, 0])) s) (fun t => (t.lane 3).counts.lossyRounds == 1
          && (t.lane 3).buffer.map Half.lossy == some true && (t.lane 3).outer.roundOut) = true := by decide +kernel

/-- Lane 3 probes for item 5 in a form. -/
def probing (form : Form) (faulted : Bool) (inner outer : HeadUnit → HeadUnit) : State :=
  flying (.probe form faulted) inner outer fun x => { x with probes := [{ code := probeCode, item := 5 }] }

theorem test_probe_reports_end_probes :
    let out := waiting (.probe 1 probeCode) 1
    let run := fun form faulted inner a => exec (.probeReport 3 .outer (message [7, 1, a])) (probing form faulted inner out)
    let outcome := fun (t : State) => (t.lane 3).results.map ProbeResult.outcome
    parseHeadMessage (message [7, 1, 1]) = some (.probe 1 true) ∧ parseHeadMessage (message [7, 1, 2]) = some (.probe 1 false)
      ∧ ((probing .paired false out out).lane 3).outer.awaited = some (false, 1)
      ∧ goes (run .paired false out 1) (fun t => outcome t == [.seen] && !(t.lane 3).inner.probeOut && (t.lane 3).probes == []) = true
      ∧ goes (run .paired true ready 2) (fun t => outcome t == [.failed]) = true
      ∧ goes (run .alternate false ready 2) (fun t => outcome t == [.notSeen]) = true
      ∧ goes (run (.single .outer) false ready 2) (fun t => outcome t == [.notSeen]) = true
      ∧ goes (run .paired false out 2) (fun t => outcome t == [] && (t.lane 3).outer.state == .ready) = true := by decide +kernel
/-- FOUND aborts the other head's PROBE, and a second probe waits for its ABORT; the awaited record leaves with the result, live. -/
theorem test_found_aborts_the_other_probe :
    let out := waiting (.probe 1 probeCode) 1
    let s := withLane 3 (fun x => { x with probes := x.probes ++ [{ code := probeCode, item := 6 }]
                                           awaited := [{ item := 5, live := true }, { item := 6, live := false }] })
      (probing .paired false out out)
    (s.lane 3).inner.probeOut = true ∧ (s.lane 3).probes ≠ []
      ∧ goes (exec (.probeReport 3 .outer (message [7, 1, 1])) s) (fun t => (t.lane 3).flight == .nothing
          && (t.lane 3).inner == { (s.lane 3).inner with state := .ready, outstanding := none, abortOwed := true }
          && (t.lane 3).awaited == [{ item := 6, live := false }]
          && (t.lane 3).results == [{ code := probeCode, item := 5, outcome := .seen, live := true }]) = true := by decide +kernel
/-- When a probe has ended the next one starts, or the holder resumes its rounds or gives way; after FOUND in a PAIRED lane the other
head's ABORT goes out just before its next ROUND. -/
theorem test_what_follows_a_probe :
    let out := waiting (.probe 1 probeCode) 1
    let s := probing .alternate false ready out
    let more := withLane 3 (fun x => { x with probes := x.probes ++ [{ code := probeCode, item := 6 }] }) s
    let buffered := withLane 3 (fun x => { x with buffer := some { head := .inner, codes := [], lossy := false, endTime := 0 } }) s
    let asked := fun gap => withLane 2 (fun x => { x with state := .inService, ask := true, probes := [{ code := probeCode, item := 7 }] })
      { buffered with hall := { s.hall with guardGap := gap } }
    let paired := withLane 3 (fun x => { x with settings := { x.settings with sweepMode := .paired } }) (probing .paired false out out)
    let run := fun s a => exec (.probeReport 3 .outer (message [7, 1, a])) s
    goes (run more 2) (fun t => (t.lane 3).inner.sent == [.probe 1 probeCode] && t.arbiter 1 == s.arbiter 1) = true
      ∧ goes (run s 2) (fun t => (t.lane 3).inner.sent == [.round 1 40] && (t.arbiter 1).tenureCount == 2) = true
      ∧ goes (run buffered 2) (fun t => (t.lane 3).outer.sent == [.round 2 40] && (t.lane 3).buffer.isSome) = true
      ∧ goes (run (asked 5) 2) (fun t => (t.arbiter 1).band == .guarding && (t.lane 3).ask && (t.lane 3).buffer.isSome) = true
      ∧ goes (run (asked 0) 2) (fun t => (t.arbiter 1).band == .held 2 && (t.lane 3).ask && (t.lane 3).flight == .nothing) = true
      ∧ goes (run paired 1) (fun t => (t.lane 3).inner.sent == [.abort 1, .round 2 40] && !(t.lane 3).inner.abortOwed
          && (t.lane 3).outer.sent == [.round 2 40]) = true := by decide +kernel
theorem test_probe_reports_go_on_to_the_outer_head :
    let s := probing .alternate false (waiting (.probe 1 probeCode) 1) ready
    (s.lane 3).inner.awaited = some (false, 1) ∧ (s.lane 3).probes = [{ code := probeCode, item := 5 }]
      ∧ goes (exec (.probeReport 3 .inner (message [7, 1, 2])) s) (fun t => (t.lane 3).outer.probeOut && (t.lane 3).outer.seq == 1)
          = true
      ∧ goes (exec (.probeReport 3 .outer (message [7, 1, 2])) s) (fun t => (t.lane 3).outer.stale == 1) = true
      ∧ ((State.reset.lane 3).outer.identOut = false
        ∧ goes (exec (.identReply 3 .outer (message [5, 2])) State.reset) (fun t => (t.lane 3).outer.stale == 1) = true) := by
  decide +kernel

/-- 04 section 4.8: the outer head's retries, its rollover at 65,535, and its fault. -/
theorem test_round_timeouts_of_the_example :
    let head := fun n (r : BitVec 16) (u : HeadUnit) => { waiting (.round 212 40) 212 u with failures := n, retries := r }
    let s := fun n r now => flying (.rounds .paired (some { head := .inner, codes := [], lossy := false, endTime := 43 }) none) ready
      (head n r) (fun x => { x with settings := { x.settings with sweepMode := .paired } }) (atTime now)
    let run := fun n r now => exec (.roundTimeout 3 .outer) (s n r now)
    (((s 0 65534 100).lane 3).outer.outstanding = some { command := .round 212 40, sentAt := 0 }
        ∧ (0 : Nat) + ((s 0 65534 100).lane 3).settings.roundTimeout ≤ (s 0 65534 100).hallTime
        ∧ ((s 2 0 100).lane 3).settings.retryLimit < 3 ∧ ((s 2 0 100).lane 3).inner.working = true)
      ∧ goes (run 0 65534 100) (fun t => (t.lane 3).outer.failures == 1 && (t.lane 3).outer.retries == 65535
          && !(t.lane 3).outer.rollover && (t.lane 3).outer.awaited == some (true, 212)) = true
      ∧ goes (run 1 65535 100) (fun t => (t.lane 3).outer.retries == 0 && (t.lane 3).outer.rollover) = true
      ∧ goes (run 2 0 100) (fun t => (t.lane 3).outer.state == .faulted && !(t.lane 3).outer.abortOwed
          && (t.lane 3).outer.sent == [.abort 212] && (t.lane 3).state == .single && t.link.notices.fault && (t.lane 3).inner.seq == 1
          && (t.lane 3).reports.map (fun r => r.outer.map Half.lossy) == [some true]) = true
      ∧ goes (run 0 0 99) (fun t => t.lanes == (s 0 0 99).lanes) = true := by decide +kernel
theorem test_discarded_messages :
    let s := flying (.rounds .paired none none) (waiting (.round 1 40) 1) ready
    parseHeadMessage [6, 1] = none ∧ parseHeadMessage (message [6, 1, 2, 0]) = none ∧ parseHeadMessage (message [4, 1]) = none
      ∧ ((s.lane 3).outer.outstanding = none ∧ ((s.lane 3).inner.failures + 1 : Nat) ≤ (s.lane 3).settings.retryLimit)
      ∧ goes (exec (.headMessageDiscarded 3 .inner [6, 1]) s) (fun t => (t.lane 3).inner.badChecks == 1
          && (t.lane 3).inner.failures == 1 && (t.lane 3).inner.retries == 1) = true
      ∧ goes (exec (.headMessageDiscarded 3 .outer [6, 1]) s) (fun t => (t.lane 3).outer.badChecks == 1
          && (t.lane 3).outer.failures == 0) = true := by decide +kernel

/-- Faults beyond the retry limit: by a discarded message, in STARTING with the other head UNKNOWN, READY and FAULTED, and in
SINGLE, where the lane stops with its queued probe FAILED; and STOPPED by the fault policy, which aborts the other head's round. -/
theorem test_faults_by_lane_state :
    let run := fun f (st : LaneState) (inner outer : HeadUnit → HeadUnit) policy =>
      exec (.headMessageDiscarded 3 .outer [6, 1]) (flying f inner (fun u => { outer u with failures := 2 }) fun x => { x with
        state := st, probes := [{ code := probeCode, item := 5 }], settings := { x.settings with faultPolicy := policy } })
    let identing := waiting .ident 0
    let out := waiting (.round 1 40) 1
    let state := fun (o : StepOutcome) st => goes o fun t => (t.lane 3).state == st && (t.lane 3).outer.state == .faulted
      && (t.lane 3).outer.badChecks == 1
    state (run .nothing .starting id identing .single) .starting = true
      ∧ state (run .nothing .starting ready identing .single) .single = true
      ∧ state (run .nothing .starting (fun u => { u with state := .faulted }) identing .single) .stopped = true
      ∧ goes (run (.rounds (.single .outer) none none) .single (fun u => { u with state := .faulted }) out .single) (fun t =>
          (t.lane 3).state == .stopped && (t.lane 3).results.map ProbeResult.outcome == [.failed] && !t.holds 3
            && t.link.notices.fault) = true
      ∧ goes (run (.rounds .paired none none) .inService out out .stop) (fun t => (t.lane 3).state == .stopped
          && (t.lane 3).inner.abortOwed && (t.lane 3).counts.abortedRounds == 1 && (t.lane 3).reports == []) = true := by
  decide +kernel

/-- A fault under the policy SINGLE ends or goes on with the round or probe that was out on the head. -/
theorem test_faults_of_a_lane_that_goes_on :
    let s := fun (f : Flight) (h : HeadPos) (command : HeadCommand) (alone : Bool) =>
      let head := fun (g : HeadPos) (u : HeadUnit) =>
        if g = h then { waiting command 1 u with failures := 2 } else if alone then ready u else waiting command 1 u
      flying f (head .inner) (head .outer) fun x => { x with probes := match f with
        | .probe _ _ => [{ code := probeCode, item := 5 }]
        | _ => [] }
    let run := fun (f : Flight) (h : HeadPos) (command : HeadCommand) (alone : Bool) (check : Lane → Bool) =>
      goes (exec (.headMessageDiscarded 3 h [6, 1]) (s f h command alone)) fun t => (t.lane 3).state == .single && check (t.lane 3)
    let made : Half := { head := .outer, codes := [], lossy := false, endTime := 0 }
    let lossy : Half := { head := .inner, codes := [], lossy := true, endTime := 0 }
    let round := HeadCommand.round 1 40
    let probe := HeadCommand.probe 1 probeCode
    run (.rounds .paired none (some made)) .inner round true (fun y => y.counts.lossyRounds == 1
        && y.reports == [{ form := .paired, inner := some lossy, outer := some made }]) = true
      ∧ run (.rounds .paired none none) .inner round false (fun y => y.counts.lossyRounds == 1 && y.reports == []
          && y.flight == .rounds .paired (some lossy) none) = true
      ∧ run (.rounds .alternate none none) .outer round true (fun y => y.counts.lossyRounds == 1 && y.reports.length == 1) = true
      ∧ run (.rounds .alternate none none) .inner round true (fun y => y.counts.lossyRounds == 1 && y.reports == []) = true
      ∧ run (.probe .paired false) .inner probe false (fun y => y.flight == .probe .paired true && y.results == []) = true
      ∧ run (.probe .paired false) .inner probe true (fun y => y.probes == []
          && y.results.map ProbeResult.outcome == [.failed]) = true
      ∧ run (.probe .alternate false) .outer probe true (fun y => y.results.map ProbeResult.outcome == [.failed]) = true
      ∧ run (.probe .alternate false) .inner probe true (fun y => y.flight == .probe .alternate true
          && y.outer.awaited == some (false, 1)) = true := by decide +kernel

theorem test_aborts :
    let owing := fun (u : HeadUnit) => { ready u with abortOwed := true, seq := 9 }
    let s := flying .nothing owing ready fun x => { x with probes := [{ code := probeCode, item := 5 }] }
    (s.lane 3).inner.abortOwed = true ∧ s.holds 3 = true ∧ (s.lane 3).flight = .nothing ∧ (s.lane 3).outer.abortOwed = false
      ∧ goes (exec (.abort 3 .inner) s) (fun t => (t.lane 3).flight == .probe .alternate false && (t.lane 3).inner.seq == 10) = true
      ∧ goes (exec (.abort 3 .inner) (withLane 3 (fun x => { x with probes := [] }) s)) (fun t =>
          (t.lane 3).inner.sent == [.abort 9] && !(t.lane 3).inner.abortOwed && (t.lane 3).flight == .nothing) = true := by
  decide +kernel

theorem test_guard_ends :
    let quiet := atTime 5 |>.setBand 1 { band := .guarding, tenureCount := 3, guardEnd := 5, lastHolder := some 3 }
    let s := asking 2 [] (asking 7 [] quiet)
    let urgent := asking 2 [{ code := probeCode, item := 5 }] (asking 7 [] quiet)
    let half := withLane 7 (fun x => { x with
      buffer := some { head := .inner, codes := [], lossy := false, endTime := 3 }, outer := { x.outer with state := .faulted } }) s
    (quiet.arbiter 1).band = .guarding ∧ (quiet.arbiter 1).guardEnd ≤ quiet.hallTime ∧ s.groupOf 7 = 1 ∧ (s.lane 7).ask = true
      ∧ goes (exec (.guardEnd 1) quiet) (fun t => (t.arbiter 1).band == .free) = true
      ∧ goes (exec (.guardEnd 1) s) (fun t => (t.arbiter 1).band == .held 7 && !(t.lane 7).ask && (t.lane 2).ask) = true
      ∧ goes (exec (.guardEnd 1) half) (fun t => (t.lane 7).reports.length == 1 && (t.lane 7).inner.roundOut) = true
      ∧ goes (exec (.guardEnd 1) urgent) (fun t => (t.arbiter 1).band == .held 2 && (t.lane 2).flight == .probe .alternate false)
          = true := by decide +kernel
/-- The lane that is granted the band sends its probe to the heads of its form, or waits for an owed ABORT. -/
theorem test_guard_end_starts_a_probe :
    let s := fun state mode owed => withLane 2 (fun x => { x with
      state := state, settings := { x.settings with sweepMode := mode }, ask := true, probes := [{ code := probeCode, item := 5 }]
      inner := { ready x.inner with abortOwed := owed }, outer := ready x.outer })
      (State.reset.setBand 1 { band := .guarding, tenureCount := 3, guardEnd := 0, lastHolder := some 3 })
    let sent := fun (u : HeadUnit) => u.sent == [.probe 1 probeCode] && u.awaited == some (false, 1)
    let run := fun state mode owed (check : Lane → Bool) => goes (exec (.guardEnd 1) (s state mode owed)) fun t =>
      t.arbiter 1 == { band := .held 2, tenureCount := 0, guardEnd := 0, lastHolder := some 2 } && check (t.lane 2)
    ((s .single .paired false).lane 2).flight = .nothing ∧ ((s .single .paired true).lane 2).inner.working = true
      ∧ run .inService .paired false (fun y => y.flight == .probe .paired false && sent y.inner && sent y.outer) = true
      ∧ run .inService .alternate false (fun y => y.flight == .probe .alternate false && sent y.inner && !sent y.outer) = true
      ∧ run .single .paired false (fun y => y.flight == .probe (.single .inner) false && sent y.inner && !sent y.outer) = true
      ∧ run .single .paired true (fun y => y.flight == .nothing && !y.ask && y.inner.abortOwed) = true := by decide +kernel

/-! ## Trackers -/

def half (h : HeadPos) (items : List Item) (ends : Time) : Half :=
  { head := h, codes := items.map fun i => { mark := 1, item := i }, lossy := false, endTime := ends }

def report (inner outer : List Item) (innerEnd outerEnd : Time) : CycleReport :=
  { form := .alternate, inner := some (half .inner inner innerEnd), outer := some (half .outer outer outerEnd) }

/-- 06 section 6.7: three reports on a renumbered book that walks out through lane 2. -/
theorem test_cycle_reports_of_the_example :
    let s := withLane 2 (fun x => { x with reports := [report [1073741900] [] 1000041 1000082,
      report [1073741900] [1073741900] 1000123 1000164, report [] [1073741900] 1000205 1000246] }) (exampleWindows)
    let shown := fun (t : State) => (t.lane 2).passages.map fun p =>
      (p.item, p.firstSeen, p.innerTally, p.outerTally, p.innerConfirmed, p.outerConfirmed, p.stage)
    goes (exec (.cycleReport 2) s) (fun t => shown t == [(2097228, 1000041, 1, 0, none, none, .tracking)]
      && goes (exec (.cycleReport 2) t) fun u => shown u == [(2097228, 1000041, 2, 1, some 1000123, none, .inner)]
      && goes (exec (.cycleReport 2) u) fun v => shown v == [(2097228, 1000041, 2, 2, some 1000123, some 1000246, .sent)]
        && (v.lane 2).toJudge == [.leaving 2097228 (some 1073741900) .lending]) = true := by decide +kernel
/-- CycleReportsUpdateSentPassages: a SENT passage seen by the outer head at its confirmation count, one that is missed, and
one that neither half saw in a lossy report. -/
theorem test_witness_cycle_reports :
    let r := report [9] [5] 10 20
    let lossy : CycleReport := { r with inner := some { half .inner [9] 10 with lossy := true } }
    let s := fun r => withLane 2 fun x => { x with reports := [r], passages := [passage 5 .sent, passage 6 .sent] }
    ((s r).lane 2).reports = r :: [] ∧ (((s r).lane 2).passages.map Passage.item).Nodup ∧ ((s r).lane 2).passages.length ≤ 24
      ∧ (passage 5 .sent).outerTally + 1 = ((s r).lane 2).settings.confirmationCount
      ∧ goes (exec (.cycleReport 2) (s r)) (fun t =>
          (t.lane 2).passages.map (fun p => (p.item, p.outerTally, p.outerConfirmed, p.missCount)) ==
            [(5, 2, some 20, 0), (6, 1, none, 2), (9, 0, none, 0)]) = true
      ∧ goes (exec (.cycleReport 2) (s lossy)) (fun t => (t.lane 2).passages.map Passage.missCount == [0, 1, 0]) = true := by
  decide +kernel
/-- A TRACKING passage gains a confirmed time as its tally reaches the confirmation count, and one neither half saw gains a miss
(CycleReportsUpdateSentPassages). -/
theorem test_tracking_passages_are_updated :
    let tracking := fun i => { passage i .tracking with innerTally := 1, innerConfirmed := none }
    let s := withLane 2 fun x => { x with reports := [report [5] [] 10 20], passages := [tracking 5, tracking 6] }
    goes (exec (.cycleReport 2) s) (fun t =>
      (t.lane 2).passages.map (fun p => (p.item, p.innerTally, p.innerConfirmed, p.missCount)) ==
        [(5, 2, some 10, 0), (6, 1, none, (tracking 6).missCount + 1)]) = true := by decide +kernel
/-- A report that misses an OUTER passage at the miss limit: removed under IGNORE, leaving under JUDGE; a SETTLED one is reported. -/
theorem test_removal_by_misses :
    let s := fun policy => withLane 2 fun x => { x with
      settings := { x.settings with outerOnly := policy, missLimit := 2 }, reports := [report [] [] 1 2]
      passages := [passage 5 .outer, passage 6 .settled, passage 7 .sent] }
    goes (exec (.cycleReport 2) (s .ignore)) (fun t => (t.lane 2).passages.map Passage.item == [7]
        && (t.lane 2).toJudge == [.removed 6]) = true
      ∧ goes (exec (.cycleReport 2) (s .judge)) (fun t => (t.lane 2).passages.map (fun p => (p.item, p.stage)) ==
          [(5, .sent), (7, .sent)] && (t.lane 2).toJudge == [.removed 6, .leaving 5 none .lending]) = true := by decide +kernel
/-- 06 section 6.8: five new items meet a list of 23. -/
theorem test_crowded_cycle :
    let others := (List.range 19).map fun n => passage (100 + n) .sent
    let s := withLane 6 fun x => { x with
      passages := [passage 7001 .tracking, passage 7002 .sent, passage 7003 .settled, passage 7004 .tracking] ++ others
      reports := [report ([8001, 8002, 8003, 8004, 8005] ++ others.map Passage.item) [] 1 2] }
    goes (exec (.cycleReport 6) s) (fun t =>
      (t.lane 6).passages.map Passage.item == [7002] ++ others.map Passage.item ++ [8001, 8002, 8003, 8004]
        && (t.lane 6).toJudge == [.removed 7003] && (t.lane 6).counts.crowdDrops == 1 && t.link.notices.crowd) = true := by
  decide +kernel

/-- Each row of the stage decisions is reached (PassageStagesFollowConfirmationsAndVerdicts). -/
theorem test_stage_decisions :
    let t := fun st first (i o : Bool) => ({ p := { passage 5 st with firstHead := first, outerConfirmed := some 2 }, newInner := i,
                                             newOuter := o, fresh := false, leaving := false } : Tracked)
    let d := fun form x => ((decideStage form x).p.stage, (decideStage form x).leaving)
    d .paired (t .tracking .inner true false) = (.inner, false) ∧ d .alternate (t .tracking .inner false true) = (.outer, false)
      ∧ d .paired (t .tracking .outer true true) = (.entered, false) ∧ d .alternate (t .tracking .outer true true) = (.tracking, true)
      ∧ d .paired (t .tracking .both true true) = (.tracking, true) ∧ d .paired (t .inner .inner false true) = (.inner, true)
      ∧ d .paired (t .outer .inner true false) = (.entered, false) ∧ d (.single .outer) (t .outer .inner false false) = (.outer, true)
      ∧ d (.single .inner) (t .tracking .inner false false) = (.tracking, true)
      ∧ d .paired (t .sent .inner true true) = (.sent, false) ∧ d .paired (t .tracking .inner false false) = (.tracking, false)
      ∧ d .alternate (t .inner .inner true false) = (.inner, false) ∧ d .alternate (t .outer .inner false true) = (.outer, false) := by
  decide +kernel
theorem test_verdicts :
    let s := withLane 2 fun x => { x with verdicts := [(5, .pass), (6, .stray)], passages := [passage 5 .sent, passage 6 .sent] }
    (s.lane 2).verdicts = (5, .pass) :: [(6, .stray)]
      ∧ goes (exec (.verdict 2) s) (fun t => (t.lane 2).passages.map (fun p => (p.stage, p.verdict)) ==
          [(.settled, some .pass), (.sent, none)]) = true := by decide +kernel

/-! ## Judgements -/

/-- Lane `l`, IN_SERVICE, has handed over a leaving passage of item 5. -/
def leaving (l : LaneId) (cls : ItemClass) (s : State := State.reset) : State :=
  withLane l (fun x => { x with state := .inService, toJudge := [.leaving 5 none cls] }) s

theorem test_passages_open_judgements :
    let run := fun s => exec (.passage 1) s
    let off := withLane 1 fun x => { x with settings := { x.settings with verify := false } }
    ((leaving 1 .staff).lane 1).toJudge = .leaving 5 none .staff :: [] ∧ (∀ j ∈ (leaving 1 .staff).judge.entries, j.item ≠ 5)
      ∧ goes (run (leaving 1 .staff)) (fun t => (t.lane 1).verdicts == [(5, .exempt)] && (t.findJudgement 5).map Judgement.stage ==
          some .done) = true
      ∧ goes (run (leaving 1 .lending)) (fun t => t.port.judge == some (5, 1) && t.judge.asking == [5]) = true
      ∧ goes (run (leaving 1 .reference)) (fun t => (t.findJudgement 5).map Judgement.stage == some .verifying
          && (t.lane 1).awaited == [{ item := 5, live := true }]) = true
      ∧ (((leaving 1 .reference off).lane 1).settings.verify = false
        ∧ goes (run (leaving 1 .reference off)) (fun t => t.log.records.map (fun r => (r.cls, r.unverified, r.number)) ==
            [(.reference, true, 0)] && (t.lane 1).sounder && (t.lane 1).lamp == .red) = true) := by decide +kernel
/-- PassagesAreShadowedOrTakeOver: lane 0 owns the judgement; lane 1's passage has the greater outer tally, or the same. -/
theorem test_passages_meet_judgements :
    let s := fun tally st => withLane 1 (fun x => { x with passages := [{ passage 5 .sent with outerTally := tally }] })
      (withLane 0 (fun x => { x with passages := [passage 5 .sent] }) (leaving 1 .lending (judging [judgement 5 0 st] [] none)))
    ((s 1 .asking).lane 1).toJudge = .leaving 5 none .lending :: [] ∧ (s 1 .asking).findJudgement 5 = some (judgement 5 0 .asking)
      ∧ goes (exec (.passage 1) (s 1 .asking)) (fun t => (t.lane 1).verdicts == [(5, .shadow)]
          && t.judge.entries == [judgement 5 0 .asking]) = true
      ∧ goes (exec (.passage 1) (s 2 .heldAbsent)) (fun t => t.judge.entries == [judgement 5 1 .heldAbsent]
          && (t.lane 0).verdicts == [(5, .shadow)] && (t.lane 0).counts.shadows == 1) = true
      ∧ goes (exec (.passage 1) (withLane 0 (fun x => { x with awaited := [{ item := 5, live := true }] }) (s 2 .verifying)))
          (fun t => t.judge.entries == [judgement 5 1 .verifying] && (t.lane 0).awaited == [{ item := 5, live := false }]
            && (t.lane 1).awaited == [{ item := 5, live := true }]) = true
      ∧ goes (exec (.passage 1) (withLane 0 (fun x => { x with
            results := [{ code := probeCode, item := 5, outcome := .seen, live := true }] }) (s 2 .verifying)))
          (fun t => (t.lane 0).results.map ProbeResult.live == [false] && (t.lane 1).probes.length == 1) = true
      ∧ goes (exec (.passage 1) (s 2 .done)) (fun t => t.judge.entries == [judgement 5 0 .done]) = true := by decide +kernel

theorem test_judge_answers :
    let s := fun a j => judging [j] [.answer 5 a] (some (5, true)) (withLane 1 (fun x => { x with state := .inService }) (atTime 4))
    let asked := judgement 5 1 .asking
    (s .absent asked).judge.inbox = .answer 5 .absent :: [] ∧ (s .absent asked).judge.answer = some (5, true)
      ∧ (s .absent asked).findJudgement 5 = some asked
      ∧ goes (exec .judgeAnswer (s .pass asked)) (fun t => (t.lane 1).verdicts == [(5, .pass)] && (t.lane 1).counts.passes == 1) = true
      ∧ goes (exec .judgeAnswer (s .pending asked)) (fun t => (t.findJudgement 5).map Judgement.stage == some .heldPending) = true
      ∧ goes (exec .judgeAnswer (s .absent asked)) (fun t => (t.findJudgement 5).map Judgement.graceEnd == some (some 1504)
          && (t.lane 1).lamp == .amber) = true
      ∧ goes (exec .judgeAnswer (s .absent { asked with graceEnd := some 4 })) (fun t =>
          (t.findJudgement 5).map Judgement.stage == some .verifying && (t.lane 1).flight == .probe .alternate false) = true
      ∧ goes (exec .judgeAnswer (s .wrongLane asked)) (fun t => (t.findJudgement 5).map Judgement.reason == some (some .wrongLane)
          && (t.lane 1).awaited == [{ item := 5, live := true }]) = true := by decide +kernel
/-- After an answer the claim of the next item in the asking queue is offered, unless one waits; a removal withdraws its claim. -/
theorem test_next_claims_are_offered :
    let asking := fun (s : State) => { s with judge := { s.judge with asking := [5, 6] } }
    let js := [judgement 5 1 .asking, judgement 6 2 .asking]
    let s := asking (judging js [.answer 5 .pass] (some (5, true)))
    let removing := fun waits answer => withLane 1 (fun x => { x with toJudge := [.removed 5] })
      { asking (judging js [] answer) with port := { State.reset.port with judge := waits } }
    goes (exec .judgeAnswer s) (fun t => t.port.judge == some (6, 2) && t.judge.asking == [6]) = true
      ∧ goes (exec (.passageRemovalReport 1) (removing (some (5, 1)) none)) (fun t => t.port.judge == some (6, 2)
          && t.judge.asking == [6]) = true
      ∧ goes (exec (.passageRemovalReport 1) (removing none (some (5, true)))) (fun t => t.port.judge == none
          && t.judge.answer == some (5, false)) = true
      ∧ goes (exec .judgeAnswer (judging [judgement 6 2 .asking] [.answer 5 .pass] (some (5, false)) |> asking |> fun s =>
          { s with judge := { s.judge with asking := [6] } })) (fun t => t.port.judge == some (6, 2)) = true := by decide +kernel
theorem test_discarded_judge_answer :
    let s := judging [judgement 5 1 .asking] [.answer 5 .pass] (some (5, false))
    s.judge.answer ≠ some (5, true)
      ∧ goes (exec .judgeAnswer s) (fun t => t.judge.entries == s.judge.entries && t.judge.answer == none) = true := by decide +kernel
/-- 07 section 7.10: the grace end of item 5,000, with the probe accepted, refused by a full queue, and with verify off. -/
theorem test_grace_end :
    let held := { judgement 5000 1 .heldAbsent with graceEnd := some 3001504, reason := some .absent }
    let s := fun f => withLane 1 f (judging [held] [] none (atTime 3001504))
    let serve := fun (x : Lane) => { x with state := .inService }
    let queued := fun n (x : Lane) => { x with
      state := .inService, probes := List.replicate n { code := probeCode, item := 9 }
      results := [{ code := probeCode, item := 9, outcome := .seen, live := true }] }
    (s serve).findJudgement 5000 = some held
      ∧ goes (exec (.graceEnd 5000) (s serve)) (fun t => t.judge.entries == [{ held with stage := .verifying }]
          && (t.lane 1).awaited == [{ item := 5000, live := true }]) = true
      ∧ goes (exec (.graceEnd 5000) (s (queued 4))) (fun t => t.log.records.map (fun r => (r.cls, r.unverified)) ==
          [(.unissued, true)]) = true
      ∧ goes (exec (.graceEnd 5000) (s (queued 3))) (fun t => t.judge.entries == [{ held with stage := .verifying }]
          && (t.lane 1).probes.length == 4) = true
      ∧ goes (exec (.graceEnd 5000) (s fun x => { serve x with settings := { x.settings with verify := false } }))
          (fun t => t.log.records.map AlarmRecord.lane == [1] && t.link.noticeLine) = true := by decide +kernel
/-- The holder's own rounds are aborted and counted for a probe (VerificationAsksForAProbeOrAlarms). -/
theorem test_probes_abort_the_holders_rounds :
    let s := judging [judgement 5 3 .heldPending] [] none (flying (.rounds .paired none none) (waiting (.round 1 40) 1)
      (waiting (.round 1 40) 1))
    s.holds 3 = true ∧ (s.lane 3).inner.roundOut = true ∧ s.findJudgement 5 = some (judgement 5 3 .heldPending)
      ∧ ((s.verify 5).lane 3).counts.abortedRounds = 2 ∧ ((s.verify 5).lane 3).flight = .nothing
      ∧ ((s.verify 5).lane 3).inner.abortOwed = true := by decide +kernel
/-- What a QUERY shows of an item beside its entry: AT_GATE and ALARM_OPEN (ItemsAreWorkedInOrderAndRepliesFormedWhole). -/
theorem test_query_flags :
    let gate := fun st => (judging [judgement 5 1 st] [] none).atGate 5
    let opened := fun st => (logged [alarm 1 3 5 st 0]).alarmOpen 5
    [JudgementStage.asking, .heldAbsent, .heldPending, .verifying, .done].map gate = [false, true, true, true, false]
      ∧ [AlarmState.opened, .acknowledged].map opened = [true, true] ∧ (logged [alarm 1 3 5 .opened 0]).alarmOpen 6 = false
      ∧ (State.reset.atGate 5 || State.reset.alarmOpen 5) = false := by decide +kernel
theorem test_change_notices :
    let s := fun st k => judging [judgement 5 1 st] [.notice 5 k] none (withLane 1 fun x =>
      { x with state := .inService, awaited := [{ item := 5, live := true }]
               results := [{ code := probeCode, item := 5, outcome := .seen, live := true }] })
    let stage := fun st k => goes (exec .changeNotice (s st k)) fun t => (t.findJudgement 5).map Judgement.stage == some .asking
      && t.judge.asking == [5]
    (s .asking .cleared).judge.inbox = .notice 5 .cleared :: [] ∧ stage .heldAbsent .cleared = true ∧ stage .heldPending .cleared = true
      ∧ stage .verifying .cleared = true ∧ stage .asking .cleared = false
      ∧ goes (exec .changeNotice (s .heldAbsent .cleared)) (fun t => t.port.judge == some (5, 1)) = true
      ∧ goes (exec .changeNotice (s .verifying .pending)) (fun t => (t.findJudgement 5).map Judgement.stage == some .heldPending
          && (t.lane 1).awaited == [{ item := 5, live := false }] && (t.lane 1).results.map ProbeResult.live == [false]) = true
      ∧ goes (exec .changeNotice (s .heldPending .pendingGone)) (fun t =>
          (t.findJudgement 5).map Judgement.stage == some .verifying) = true
      ∧ goes (exec .changeNotice (s .heldAbsent .pendingGone)) (fun t => t.judge.entries == [judgement 5 1 .heldAbsent]) = true := by
  decide +kernel
theorem test_probe_results :
    let s := fun o live => withLane 1 (fun x => { x with
      state := .inService, results := [{ code := probeCode, item := 5, outcome := o, live := live }] })
      (judging [judgement 5 1 .verifying] [] none)
    ((s .seen true).lane 1).results = { code := probeCode, item := 5, outcome := .seen, live := true } :: []
      ∧ (s .seen true).findJudgement 5 = some (judgement 5 1 .verifying)
      ∧ goes (exec (.probeResult 1) (s .seen true)) (fun t => t.log.records.map AlarmRecord.unverified == [false]) = true
      ∧ goes (exec (.probeResult 1) (s .failed true)) (fun t => t.log.records.map AlarmRecord.unverified == [true]) = true
      ∧ goes (exec (.probeResult 1) (s .notSeen true)) (fun t => t.log.records == [] && (t.lane 1).verdicts == [(5, .stray)]) = true
      ∧ goes (exec (.probeResult 1) (s .seen false)) (fun t => t.log.records == [] && (t.lane 1).results == []) = true := by
  decide +kernel
theorem test_removal_reports :
    let s := withLane 1 (fun x => { x with toJudge := [.removed 5] }) (judging [judgement 5 1 .done, judgement 6 1 .done] [] none)
    (s.lane 1).toJudge = .removed 5 :: []
      ∧ goes (exec (.passageRemovalReport 1) s) (fun t => t.judge.entries == [judgement 6 1 .done]) = true
      ∧ goes (exec (.passageRemovalReport 2) (withLane 2 (fun x => { x with toJudge := [.removed 5] }) s))
          (fun t => t.judge.entries == s.judge.entries) = true := by decide +kernel

/-! ## Alarms, the host's reads, the soft restart -/

/-- 08 section 8.7: the log is full of OPEN records, and the counter wraps past numbers that are held. -/
theorem test_full_log :
    let records := (List.range 64).map fun n => alarm (BitVec.ofNat 16 (939 + n)) 0 7 .opened 0
    let raise := fun (s : State) => s.raiseAlarm { lane := 4, item := 6100, raw := none, cls := .lapsed, unverified := false }
    let s := raise (logged records { atTime 5004000 with log := { records := records, counter := 940, overwrites := 0 } })
    let closed := raise (logged ((alarm 7 0 7 .opened 0 :: alarm 8 0 7 .settled 0 :: records.drop 2)))
    closed.log.records.map AlarmRecord.number = ((alarm 7 0 7 .opened 0 :: records.drop 2).map AlarmRecord.number ++ [0])
      ∧ closed.log.overwrites = 0 ∧ closed.link.notices.logOverwrite = false
      ∧ s.log.records.length = 64 ∧ (s.log.records.getLast?.map fun r => (r.number, r.soundingEnd)) = some (1003, 5014000)
      ∧ s.log.overwrites = 1 ∧ s.log.counter = 1004 ∧ s.link.notices.logOverwrite = true := by decide +kernel
theorem test_ack_alarm :
    let s := fun n => linkAsked (.ackAlarm n) (logged [alarm 65535 3 5 .opened 0, alarm 1 3 5 .settled 0] (atTime 9))
    (s 65535).link.work = .taken .link 1 (.ackAlarm 65535) ∧ ((s 1).log.records.map AlarmRecord.number).Nodup
      ∧ goes (exec .ackAlarm (s 65535)) (fun t => t.log.records.map (fun r => (r.state, r.closedAt, r.closedBy)) ==
          [(.acknowledged, some 9, some .link), (.settled, none, none)]) = true
      ∧ goes (exec .ackAlarm (s 1)) (fun t => t.link.reply.take 5 == [0x7E, 0, 2, 1, 7] && t.log == (s 1).log) = true := by
  decide +kernel
theorem test_read_alarms_and_clear_log :
    let s := fun r => linkAsked r (logged ((List.range 10).map fun n =>
      alarm (BitVec.ofNat 16 n) 3 5 (if n % 2 = 0 then .opened else .settled) 0))
    goes (exec .readAlarms (s (.readAlarms none))) (fun t => t.link.reply.length == 4 + 2 + 8 * 35 + 2) = true
      ∧ goes (exec .readAlarms (s (.readAlarms (some 7)))) (fun t => (t.link.reply.drop 4).take 4 == [1, 2, 0, 8]) = true
      ∧ goes (exec .readAlarms (s (.readAlarms (some 10)))) (fun t => t.link.reply.take 5 == [0x7E, 0, 2, 1, 7]) = true
      ∧ goes (exec .clearLog (s .clearLog)) (fun t => (t.link.reply.drop 4).take 2 == [1, 5]
          && t.log.records.map (fun r => r.number.toNat) == [0, 2, 4, 6, 8]) = true := by decide +kernel
theorem test_sounding_end :
    let s := (withLane 4 (fun x => { x with state := .inService, sounder := true, lamp := .red })
      (logged [alarm 1003 4 5000 .opened 5000000] (atTime 5010000)))
    (s.log.records.map AlarmRecord.number).Nodup ∧ s.dueEvent = some (.soundingEnd 1003)
      ∧ goes (exec (.soundingEnd 1003) s) (fun t => !(t.lane 4).sounder && (t.lane 4).lamp == .green) = true
      ∧ goes (exec (.soundingEnd 1003) { s with hallTime := 5009999 }) (fun t => t.lanes == s.lanes) = true := by decide +kernel
/-- READ LANE of a passage with its judgement: 3 bytes, 37 and 12; the host's clears and reads. -/
theorem test_host_reads :
    let s := withLane 7 (fun x => { x with state := .inService, passages := [passage 5 .sent], inner := { x.inner with stale := 3 } })
      (judging [{ judgement 5 7 .done with alarmNumber := some 3 }] [] none)
    let noticed := ((linkAsked .readNotices).raise .fault).raise .alarm
    goes (exec .readLane (linkAsked (.readLane 7) s)) (fun t => (t.link.reply.drop 4).take 3 == [1, 3, 1]
        && t.link.reply.length == 4 + 3 + 49 + 2 && t.lanes == s.lanes) = true
      ∧ goes (exec .readLane (linkAsked (.readLane 8) s)) (fun t => t.link.reply.take 5 == [0x7E, 0, 2, 1, 15]) = true
      ∧ goes (exec .readStatus (linkAsked .readStatus s)) (fun t => t.link.reply.length == 4 + 640 + 2) = true
      ∧ goes (exec .clearCounts (linkAsked .clearCounts s)) (fun t => (t.lane 7).inner.stale == 0
          && (t.lane 7).passages == [passage 5 .sent]) = true
      ∧ goes (exec .readNotices noticed) (fun t => (t.link.reply.drop 4).take 4 == [1, 2, 1, 2] && !t.link.noticeLine) = true := by
  decide +kernel
theorem test_restart :
    let s := linkAsked .restart (standing 0 9 (flying (.rounds .paired none none) (waiting (.round 58 40) 58)
      (waiting (.round 212 40) 212) (fun x => { x with sounder := true }) (logged [alarm 1 3 5 .opened 0] (atTime 5))))
    s.link.work = .taken .link 1 .restart ∧ (s.lane 3).state ≠ .disabled ∧ s.desk.work = .idle
      ∧ goes (exec .restart s) (fun t => (t.lane 3).state == .starting && !(t.lane 3).sounder && (t.lane 3).flight == .nothing
          && t.standing[0] == none && t.log.records.map AlarmRecord.soundingEnd == [5] && (t.lane 4).state == .disabled
          && t.link.reply.take 5 == [0x7E, 0, 2, 1, 1]) = true := by decide +kernel

/-- The soft restart releases the band, to GUARD or with a guard gap of 0 to FREE though another lane asked, and counts the exits
without a verdict, one of them on its way, and the rounds out. -/
theorem test_restart_releases_bands_and_counts_drops :
    let s := fun gap => withLane 2 (fun x => { x with state := .inService, ask := true }) (linkAsked .restart
      (judging [judgement 5 3 .asking, judgement 6 3 .done] [] (some (5, true)) (flying (.rounds .paired none none)
        (waiting (.round 1 40) 1) (waiting (.round 1 40) 1) (fun x => { x with toJudge := [.leaving 8 none .lending, .removed 9] })
        { atTime 5 with hall := { State.reset.hall with guardGap := gap }, desk := { State.reset.desk with state := .spent, abandoned := 7 } })))
    goes (exec .restart (s 4)) (fun t => (t.lane 3).inner.sent == [.abort 1, .ident] && !(t.lane 3).inner.abortOwed
        && t.log == (s 4).log && t.desk == { (s 4).desk with state := .ignoring }) = true
      ∧ ((s 4).arbiter 1).band = .held 3 ∧ (s 4).groupOf 3 = 1 ∧ (∀ l, ((s 4).lane l).flight ≠ .nothing → (s 4).holds l = true)
      ∧ goes (exec .restart (s 4)) (fun t => t.arbiter 1 == { band := .guarding, tenureCount := 1, guardEnd := 9, lastHolder := some 3 }
          && t.arbiter 0 == State.reset.arbiter 0 && (t.lane 3).counts.dropped == 2 && (t.lane 3).counts.abortedRounds == 2
          && (t.lane 4).counts == LaneCounts.reset && t.desk.abandoned == 7 && t.desk.state == .ignoring
          && t.judge.answer == some (5, false)) = true
      ∧ goes (exec .restart (s 0)) (fun t => t.arbiter 1 == { band := .free, tenureCount := 1, guardEnd := 5, lastHolder := some 3 }) = true
      := by decide +kernel

/-- A desk claim that waits at a soft restart completes and answers no request; a batch claim likewise. -/
theorem test_orphaned_desk_claims :
    let s := { linkAsked .restart (claimed .hold (.desk 2) 5 State.reset) with pending := [] }
    let batch : State := { holding [entry 5 .pending (.desk 2) 9] with port := { State.reset.port with
      desk := some (.batch .cancel (.desk 2) (.desk 2) 12 0), deskOrphan := true } }
    goes (exec .restart s) (fun t => t.port.deskOrphan && t.desk.state == .ignoring
        && t.port.nextRequest == some (.desk, .item .hold 5 (.desk 2) noOptions)
        && goes (exec .holdClaim t) fun u => (u.findEntry 5).isSome && u.desk == t.desk && !u.port.deskOrphan) = true
      ∧ batch.port.nextRequest = some (.desk, .batch .cancel (.desk 2) (.desk 2) 12 0)
      ∧ goes (exec .cancelBatchClaim batch) (fun t => t.table.entries == [] && t.desk == batch.desk && t.port.desk.isNone) = true := by
  decide +kernel

/-! ## Lines -/

/-- The service link: an ENABLE LANE 5 frame byte by byte, a bad length, a bad check, silence and the end of the reply. -/
theorem test_service_link_frames :
    let feed := fun (bytes : List Byte) => bytes.foldl
      (fun (o : StepOutcome) b => match o with
        | .next t => exec (.serviceByte b) t
        | o => o) (.next State.reset)
    let frame := [0x7E] ++ ([0, 2, 20, 5] : List Byte) ++ crcBytes [0, 2, 20, 5]
    goes (feed (0x55 :: frame)) (fun t => t.link.state == .working && t.link.work == .taken .link 20 (.enableLane 5)
        && goes (exec (.serviceByte 9) t) fun u => u.link.buffer == [9]) = true
      ∧ goes ((fun o => match o with
          | .next t => exec (.serviceByte (crc [0, 1, 24]).toNat) { t with link := { t.link with lostBytes := 3, badFrames := 2 } }
          | o => o) (feed ([0x7E, 0, 1, 24] ++ (crcBytes [0, 1, 24]).take 1))) (fun t => t.link.work == .taken .link 24 .clearCounts
            && t.link.lostBytes == 0 && t.link.badFrames == 0) = true
      ∧ goes (feed [0x7E, 0, 0]) (fun t => t.link.badFrames == 1 && t.link.reply.take 5 == [0x7E, 0, 2, 0, 18]) = true
      ∧ goes (feed [0x7E, 0, 227]) (fun t => t.link.state == .sending) = true
      ∧ goes (feed [0x7E, 0, 226]) (fun t => t.link.state == .receiving && t.link.badFrames == 0) = true
      ∧ goes (feed (frame.take 6 ++ [0])) (fun t => t.link.badFrames == 1 && t.link.state == .sending) = true := by decide +kernel
theorem test_service_link_buffer_and_silence :
    let full := { (linkAsked .readStatus) with link := { (linkAsked .readStatus).link with buffer := List.replicate 1024 0 } }
    let cut := fun now => { atTime now with link := { State.reset.link with state := .receiving, quietSince := 10 } }
    let sent := { State.reset with link := { State.reset.link with state := .sending, buffer := [1, 2], reply := [3] } }
    goes (exec (.serviceByte 7) full) (fun t => t.link.lostBytes == 1 && t.link.buffer == full.link.buffer) = true
      ∧ goes (exec .frameTimeout (cut 60)) (fun t => t.link.badFrames == 1) = true
      ∧ goes (exec .frameTimeout (cut 59)) (fun t => t.link == (cut 59).link) = true
      ∧ goes (exec .replySent { sent with link := { sent.link with buffer := [1, 0x7E, 0, 0, 9] } })
          (fun t => t.link.state == .sending && t.link.badFrames == 1 && t.link.buffer == [9]) = true
      ∧ goes (exec .replySent sent) (fun t => t.link.state == .hunting && t.link.buffer == []) = true := by decide +kernel

/-- 09 section 9.8: the kiosk's frame as the bus brings it, its reply read to the end and past it. -/
theorem test_desk_bus_frame :
    let feed := fun (cs : List Instr) => cs.foldl
      (fun (o : StepOutcome) c => match o with
        | .next t => exec c t
        | o => o) (.next State.reset)
    let query : List Instr := [.deskAddressByte 0x2C .write] ++ ([9, 8, 1, 0, 0, 0, 0, 5] : List Byte).map .deskWriteByte
    goes (feed (query ++ [.deskAddressByte 0x2C .read])) (fun t => t.desk.clockHeld && t.desk.state == .working
        && t.desk.work == .taken (.desk 8) 8 (.items .query plain [raw 5])) = true
      ∧ goes (feed (query ++ [.deskRepeatedStartWrite 0x2C .write])) (fun t => t.desk.state == .receiving && t.desk.buffer == []
          && t.desk.abandoned == 1) = true
      ∧ goes (feed (query ++ [.deskRepeatedStartWrite 0x2D .read])) (fun t => t.desk.state == .ignoring && t.desk.abandoned == 1) = true
      ∧ goes (feed (query ++ [.deskStopCondition])) (fun t => t.desk.state == .idle && t.desk.abandoned == 1) = true
      ∧ goes (feed [.deskAddressByte 0x2C .write, .deskWriteByte 9, .deskAddressByte 0x2C .read])
          (fun t => t.desk.work == .taken (.desk 8) 0 .bad && t.desk.buffer == []) = true
      ∧ goes (feed [.deskAddressByte 0x2C .write, .deskWriteByte 16]) (fun t => t.desk.state == .ignoring && !t.desk.acked) = true := by
  decide +kernel
/-- A read with no request, in IDLE and with an empty buffer: its reply is formed at once, whatever comes next. -/
theorem test_desk_reads_with_no_request :
    let formed := fun (o : StepOutcome) => goes o fun t => t.desk.state == .working && t.desk.work == .idle && t.desk.reply == [17]
      && t.desk.clockHeld && t.desk.abandoned == 0
      && goes (exec (.badRequest .desk) t) (fun u => u.desk.state == .replying && u.desk.dataOut == 17 && !u.desk.clockHeld)
      && goes (exec .deskStopCondition t) (fun u => u.desk.state == .idle && u.desk.abandoned == 0)
    formed (exec (.deskAddressByte 0x2C .read) State.reset) = true
      ∧ goes (exec (.deskAddressByte 0x2C .write) State.reset) (fun t => t.desk.state == .receiving && t.desk.buffer == []
          && formed (exec (.deskAddressByte 0x2C .read) t)) = true := by decide +kernel
/-- A stop, and a source byte out of range, leave nothing of the frame in the port. -/
theorem test_desk_frames_end_clean :
    let s := { State.reset with desk := { State.reset.desk with state := .receiving, buffer := [1, 7], overlong := true, acked := true } }
    goes (exec .deskStopCondition s) (fun t => t.desk == { State.reset.desk with abandoned := 1 }) = true
      ∧ goes (exec (.deskWriteByte 16) { s with desk := { s.desk with buffer := [] } }) (fun t =>
          t.desk == { State.reset.desk with state := .ignoring }) = true := by decide +kernel
theorem test_desk_bus_limits_and_reply :
    let longest := { State.reset with desk := { State.reset.desk with state := .receiving, buffer := List.replicate 46 1 } }
    let replying := { State.reset with desk := { State.reset.desk with state := .replying, reply := [1, 2], supplied := 1 } }
    goes (exec (.deskWriteByte 7) longest) (fun t => t.desk.buffer.length == 47 && !t.desk.overlong
        && goes (exec (.deskWriteByte 7) t) fun u => u.desk.overlong && u.desk.buffer.length == 47) = true
      ∧ goes (exec .deskReplyByte replying) (fun t => t.desk.dataOut == 2
          && goes (exec .deskReplyByte t) fun u => u.desk.dataOut == 0 && u.desk.supplied == 2) = true
      ∧ goes (exec .deskReplyDeclined replying) (fun t => t.desk.state == .spent && t.desk.dataOut == 0xFF
          && goes (exec .deskStopCondition t) fun u => u.desk.state == .idle && u.desk.abandoned == 0) = true := by decide +kernel

/-! ## Invariants -/

/-- A state that meets the premises of the four invariant statements, and takes a step. -/
theorem test_witness_invariants :
    let s := State.reset
    s.table.entries.Pairwise (fun a b => a.item < b.item) ∧ s.stageCount .pending ≤ 256
      ∧ (∀ l, (s.lane l).passages.length ≤ 24) ∧ (s.log.records.map AlarmRecord.number).Nodup
      ∧ (∀ l, (s.lane l).flight = .nothing) ∧ (∀ g l, (s.arbiter g).band ≠ .held l) ∧ (∀ l, (s.lane l).ask = false)
      ∧ s.hallTime < 281474976710656 ∧ (∀ l, (s.lane l).awaited = [] ∧ (s.lane l).results = [] ∧ (s.lane l).probes = []) ∧ s.desk.supplied ≤ s.desk.reply.length ∧ s.link.noticeLine = s.someNotice
      ∧ goes (step s) (fun _ => true) = true := by decide +kernel

/-- A table with entries that meets the premises of StepsKeepTheTableSound. -/
theorem test_witness_sound_table :
    let s := holding [entry 5 .pending (.desk 14) 9, entry 6 .cleared .link 9, entry 7 .pending .link 9]
    s.tableOrdered ∧ s.pendingCountsExact ∧ s.tableWithinLimits := by
  refine ⟨?_, ?_, by decide +kernel, by decide +kernel, ?_⟩
  · unfold State.tableOrdered
    decide +kernel
  · rintro (_ | d)
    · decide +kernel
    · revert d
      decide +kernel
  · rintro (_ | d)
    · decide +kernel
    · revert d
      decide +kernel

end Sys2Proof.Tests
end

/-! # Stock windows and sources

What the window unit, the source unit and the service of a taken request do, one lemma for each fact that proofs cite. -/

namespace Sys2Proof.Machine

/-! ## The work of a taken request -/

namespace State

/-- A taken request is worked by what its command does with it. -/
theorem serve_of_taken {s : State} {p : PortId} {src : Source} {kind : Byte} {r : Request}
    (h : s.workOf p = .taken src kind r) (f : Source → Byte → Request → Option State) :
    s.serve p f = (f src kind r).getD s := by
  unfold serve
  rw [h]

/-! ## Matching (01 R4 to R6) -/

theorem firstWindow_eq_find? (s : State) (test : StockWindow → Bool) :
    s.firstWindow test = Fin.find? fun w : Fin 16 => test s.windows[w] := by
  rw [Fin.find?_eq_find?_finRange]
  rfl

/-- The window found satisfies the test, and no window before it does. -/
theorem firstWindow_eq_some_iff {s : State} {test : StockWindow → Bool} {w : Fin 16} :
    s.firstWindow test = some w ↔
      test s.windows[w] = true ∧ ∀ v : Fin 16, v < w → ¬ test s.windows[v] = true := by
  simp only [firstWindow_eq_find?, Fin.find?_eq_some_iff, Bool.not_eq_true]

theorem firstWindow_eq_none_iff {s : State} {test : StockWindow → Bool} :
    s.firstWindow test = none ↔ ∀ w : Fin 16, ¬ test s.windows[w] = true := by
  simp only [firstWindow_eq_find?, Fin.find?_eq_none_iff, Bool.not_eq_true]

end State

theorem StockWindow.covers_iff (w : StockWindow) (n : Item) :
    w.covers n = true ↔ w.enabled = true ∧ w.base ≤ n ∧ n < w.base + 2 ^ w.k := by
  rw [covers, spans, Bool.and_eq_true, Bool.and_eq_true, decide_eq_true_iff, decide_eq_true_iff, size]

theorem StockWindow.imageHolds_iff (w : StockWindow) (key : Item) :
    w.imageHolds key = true ↔
      w.enabled = true ∧ w.target.getD w.base ≤ key ∧ key < w.target.getD w.base + 2 ^ w.k := by
  rw [imageHolds, spans, Bool.and_eq_true, Bool.and_eq_true, decide_eq_true_iff, decide_eq_true_iff, imageStart, size]

theorem validItem_iff (i : Item) : validItem i = true ↔ 1 ≤ i ∧ i ≤ 1099511627775 := by
  rw [validItem, Bool.and_eq_true, decide_eq_true_iff, decide_eq_true_iff, maxItem]

/-- A number carried from one range of `size` numbers into another that lies within the item numbers is valid. -/
theorem offset_in_range {base target size n : Nat} (positive : target ≠ 0) (room : target + size - 1 ≤ 1099511627775)
    (above : base ≤ n) (below : n < base + size) : 1 ≤ target + (n - base) ∧ target + (n - base) ≤ 1099511627775 := by
  omega

namespace State

/-- A matching window gives class and column, and its target, where it has one, the normalised item. -/
theorem normalise_of_window {s : State} {raw : Item} {w : Fin 16} (h : s.firstWindow (·.covers raw) = some w) :
    (s.normalise raw).cls = s.windows[w].cls ∧ (s.normalise raw).column.val = w.val
      ∧ (∀ target, s.windows[w].target = some target →
          (s.normalise raw).item = target + (raw - s.windows[w].base))
      ∧ (s.windows[w].target = none → (s.normalise raw).item = raw) := by
  unfold normalise
  rw [h]
  exact ⟨rfl, rfl, fun target ht => by simp only [ht], fun ht => by simp only [ht]⟩

theorem normalise_of_no_window {s : State} {raw : Item} (h : s.firstWindow (·.covers raw) = none) :
    s.normalise raw = { item := raw, raw := none, cls := s.hall.defaultClass, column := 16 } := by
  unfold normalise
  rw [h]
  rfl

/-- The raw item is kept exactly where normalisation changed it. -/
theorem normalise_raw (s : State) (raw : Item) :
    (s.normalise raw).raw = if (s.normalise raw).item = raw then none else some raw := by
  cases h : s.firstWindow (·.covers raw) with
  | none => simp [normalise_of_no_window h]
  | some w =>
    unfold normalise
    rw [h]

/-- Where every target is valid and leaves room for its window's range, a valid number normalises to a valid one. -/
theorem normalise_item_valid {s : State} {raw : Item}
    (targets : ∀ (w : Fin 16) (target : Item), s.windows[w].target = some target →
      target ≠ 0 ∧ target + 2 ^ s.windows[w].k - 1 ≤ 1099511627775)
    (hraw : 1 ≤ raw ∧ raw ≤ 1099511627775) :
    1 ≤ (s.normalise raw).item ∧ (s.normalise raw).item ≤ 1099511627775 := by
  cases h : s.firstWindow (·.covers raw) with
  | none => simpa only [normalise_of_no_window h] using hraw
  | some w =>
    obtain ⟨_, _, renumbered, kept⟩ := normalise_of_window h
    cases ht : s.windows[w].target with
    | none => rwa [kept ht]
    | some target =>
      obtain ⟨_, above, below⟩ := (StockWindow.covers_iff _ _).1 (firstWindow_eq_some_iff.1 h).1
      obtain ⟨positive, room⟩ := targets w target ht
      rw [renumbered target ht]
      exact offset_in_range positive room above below

theorem keyLookup_of_window {s : State} {key : Item} {w : Fin 16} (h : s.firstWindow (·.imageHolds key) = some w) :
    s.keyLookup key = (s.windows[w].cls, w.castSucc) := by
  unfold keyLookup
  rw [h]

theorem keyLookup_of_no_window {s : State} {key : Item} (h : s.firstWindow (·.imageHolds key) = none) :
    s.keyLookup key = (s.hall.defaultClass, 16) := by
  unfold keyLookup
  rw [h]
  rfl

/-! ## Standing (01 R13 to R15) -/

theorem standingOver_iff (s : State) (d : DeskId) :
    s.standingOver d = true ↔ ∃ r, s.standing[d] = some r ∧ r.ends ≤ s.hallTime := by
  unfold standingOver
  cases s.standing[d] <;> simp

theorem standingRequest_of_invalid (s : State) (d : DeskId) {i : Item} (h : validItem i = false) :
    s.standingRequest d i = (s, .badItem) := by
  simp [standingRequest, h]

theorem standingRequest_of_other_class {s : State} (d : DeskId) {i : Item} (h : validItem i = true)
    (hc : (s.normalise i).cls ≠ .staff) : s.standingRequest d i = (s, .noStanding) := by
  simp [standingRequest, h, hc]

theorem standingRequest_of_staff {s : State} (d : DeskId) {i : Item} (h : validItem i = true)
    (hc : (s.normalise i).cls = .staff) :
    s.standingRequest d i =
      (s.setStanding d (some { staffItem := (s.normalise i).item, ends := s.hallTime + 60000 * s.hall.standingTime }), .done) := by
  simp [standingRequest, h, hc, minutes]

end State

/-- A STANDING that has been taken is answered with the code of its checks. -/
theorem exec_standing_of_taken {s t : State} {d : DeskId} {kind : Byte} {i : Item} {c : Code}
    (h : s.desk.work = .taken (.desk d) kind (.standing i)) (hr : s.standingRequest d i = (t, c)) :
    exec .standing s = .next (t.replyOn .desk kind (codeReply c)) := by
  show Host.Outcome.next s.serveStanding = _
  unfold State.serveStanding
  rw [State.serve_of_taken (p := .desk) h]
  simp only [hr, Option.getD_some]

theorem exec_endStanding_of_taken {s : State} {d : DeskId} {kind : Byte}
    (h : s.desk.work = .taken (.desk d) kind .endStanding) :
    exec .endStanding s = .next ((s.setStanding d none).replyOn .desk kind (codeReply .done)) := by
  show Host.Outcome.next s.serveEndStanding = _
  unfold State.serveEndStanding
  rw [State.serve_of_taken (p := .desk) h]
  rfl

theorem exec_standingEnd_of_over {s : State} {d : DeskId} (h : s.standingOver d = true) :
    exec (.standingEnd d) s = .next (s.setStanding d none) := by
  show Host.Outcome.next (if s.standingOver d then s.setStanding d none else s) = _
  rw [if_pos h]

/-- STANDING END touches neither the desk bus port nor the table port. -/
theorem exec_standingEnd_ports {s t : State} {d : DeskId} (h : exec (.standingEnd d) s = .next t) :
    t.desk = s.desk ∧ t.port = s.port := by
  change Host.Outcome.next (if s.standingOver d then s.setStanding d none else s) = _ at h
  cases h
  split <;> exact ⟨rfl, rfl⟩

/-! ## The numbers that bytes name (11 R193) -/

theorem ItemClass.ofNumber_eq_some_iff (n : Nat) (c : ItemClass) : ofNumber n = some c ↔ c.number.toNat = n := by
  match n with
  | 0 | 1 | 2 | 3 | 4 | 5 => cases c <;> decide
  | n + 6 => cases c <;> simp [ofNumber, number]

theorem ItemClass.number_bounds (c : ItemClass) : 1 ≤ c.number.toNat ∧ c.number.toNat ≤ 5 := by
  cases c <;> decide

theorem ItemClass.exists_number {n : Nat} (h : 1 ≤ n ∧ n ≤ 5) : ∃ c : ItemClass, c.number.toNat = n := by
  match n, h with
  | 1, _ => exact ⟨.lending, rfl⟩
  | 2, _ => exact ⟨.reference, rfl⟩
  | 3, _ => exact ⟨.restricted, rfl⟩
  | 4, _ => exact ⟨.exempt, rfl⟩
  | 5, _ => exact ⟨.staff, rfl⟩

/-- EXEMPT and STAFF, whose windows may not renumber (01 R8), are the classes of the numbers from 4. -/
theorem ItemClass.not_exempt_not_staff_iff (c : ItemClass) : (c ≠ .exempt ∧ c ≠ .staff) ↔ c.number.toNat < 4 := by
  cases c <;> decide

theorem yesNo_eq_some_iff (n : Nat) (b : Bool) : yesNo n = some b ↔ n ≤ 1 ∧ b = decide (n = 1) := by
  match n with
  | 0 | 1 => cases b <;> decide
  | n + 2 => simp [yesNo]

/-- A byte that names no right is read as the right NONE: `none` in the last case of the model's `Right.ofNumber` is `Right.none`,
and not the absence of a right. -/
theorem Right.ofNumber_of_four_lt {n : Nat} (h : 4 < n) : ofNumber n = some Right.none := by
  obtain ⟨m, rfl⟩ := Nat.exists_eq_add_of_le' h
  rfl

/-! ## SET WINDOW (01 R8) -/

/-- What SET WINDOW refuses. -/
def RawWindow.Refused (v : RawWindow) : Prop :=
  15 < v.window ∨ 32 < v.k ∨ ¬ (1 ≤ v.cls ∧ v.cls ≤ 5) ∨ 1 < v.enabled ∨ 1 < v.renumber
    ∨ v.base % 2 ^ v.k ≠ 0 ∨ 1099511627775 < v.base + 2 ^ v.k - 1
    ∨ v.renumber = 1 ∧ (v.target = 0 ∨ v.target % 2 ^ v.k ≠ 0 ∨ 1099511627775 < v.target + 2 ^ v.k - 1 ∨ 4 ≤ v.cls)

/-- The stock window that a SET WINDOW of class `c` writes. -/
def RawWindow.stockWindow (v : RawWindow) (c : ItemClass) : StockWindow :=
  { enabled := decide (v.enabled = 1), base := v.base, k := v.k, cls := c,
    target := if v.renumber = 1 then some v.target else none }

/-- Where the numbers name a window, a class and two yes-or-no values, the record is found unless a check refuses it. -/
theorem RawWindow.record_of_named {v : RawWindow} {c : ItemClass} (hw : v.window < 16) (hc : c.number.toNat = v.cls)
    (he : v.enabled ≤ 1) (hr : v.renumber ≤ 1) [Decidable v.Refused] :
    v.record = if v.Refused then none else some (⟨v.window, hw⟩, v.stockWindow c) := by
  have named := (ItemClass.ofNumber_eq_some_iff v.cls c).2 hc
  have enabled := (yesNo_eq_some_iff v.enabled _).2 ⟨he, rfl⟩
  have renumber := (yesNo_eq_some_iff v.renumber _).2 ⟨hr, rfl⟩
  have bounds := c.number_bounds
  have lower := c.not_exempt_not_staff_iff
  unfold record
  simp only [named, enabled, renumber, dif_pos hw]
  rw [← ite_not (p := v.Refused)]
  refine if_congr ?_ (by simp [stockWindow]) rfl
  simp only [within, Bool.and_eq_true, Bool.or_eq_true, Bool.not_eq_true', decide_eq_true_eq, decide_eq_false_iff_not,
    bne_iff_ne, beq_iff_eq, and_assoc, lower, Refused]
  rw [maxItem]
  omega

/-- A refused SET WINDOW gives no record, whichever of its checks failed. -/
theorem RawWindow.record_of_refused {v : RawWindow} (h : v.Refused) : v.record = none := by
  by_cases named : (v.window < 16 ∧ (1 ≤ v.cls ∧ v.cls ≤ 5) ∧ v.enabled ≤ 1 ∧ v.renumber ≤ 1)
  · obtain ⟨hw, hcls, he, hr⟩ := named
    obtain ⟨c, hc⟩ := ItemClass.exists_number hcls
    classical exact (record_of_named hw hc he hr).trans (if_pos h)
  · unfold record
    split
    next c enabled renumber hc he hr =>
      rw [ItemClass.ofNumber_eq_some_iff] at hc
      rw [yesNo_eq_some_iff] at he hr
      have bounds := c.number_bounds
      exact dif_neg (by omega)
    · rfl

theorem RawWindow.record_of_not_refused {v : RawWindow} (h : ¬ v.Refused) :
    ∃ (w : Fin 16) (c : ItemClass), w.val = v.window ∧ c.number.toNat = v.cls ∧ v.record = some (w, v.stockWindow c) := by
  have inRange := h
  simp only [Refused, not_or, not_lt, not_not] at inRange
  obtain ⟨hw, _, hcls, he, hr, _⟩ := inRange
  obtain ⟨c, hc⟩ := ItemClass.exists_number hcls
  classical exact ⟨⟨v.window, by omega⟩, c, rfl, hc, (record_of_named (by omega) hc he hr).trans (if_neg h)⟩

theorem exec_setWindow_of_record {s : State} {kind : Byte} {v : RawWindow} {w : Fin 16} {x : StockWindow}
    (h : s.link.work = .taken .link kind (.setWindow v)) (hv : v.record = some (w, x)) :
    exec .setWindow s =
      .next (({ s with windows := s.windows.set w x } : State).replyOn .link kind (codeReply .done)) := by
  show execSetWindow s = _
  unfold execSetWindow State.serveLink
  rw [State.serve_of_taken (p := .link) h]
  simp only [hv, Option.getD_some, State.linkReply]

theorem exec_setWindow_of_no_record {s : State} {kind : Byte} {v : RawWindow}
    (h : s.link.work = .taken .link kind (.setWindow v)) (hv : v.record = none) :
    exec .setWindow s = .next (s.replyOn .link kind (codeReply .badValue)) := by
  show execSetWindow s = _
  unfold execSetWindow State.serveLink
  rw [State.serve_of_taken (p := .link) h]
  simp only [hv, Option.getD_some, State.linkReply]

/-! ## SET RIGHTS (01 R10) -/

theorem rightsWrite_of_named {desk column right : Nat} {d : DeskId} {cs : List Column} {r : Right}
    (hd : Source.ofNumber desk = some (.desk d)) (hc : columnsOf column = some cs) (hr : Right.ofNumber right = some r) :
    rightsWrite desk column right = some (d, cs, r) := by
  simp only [rightsWrite, hd, hc, hr]

theorem exec_setRights_of_write {s : State} {kind : Byte} {desk column right : Nat} {d : DeskId} {cs : List Column}
    {r : Right} (h : s.link.work = .taken .link kind (.setRights desk column right))
    (hw : rightsWrite desk column right = some (d, cs, r)) :
    exec .setRights s = .next ((s.writeRights d cs r).replyOn .link kind (codeReply .done)) := by
  show execSetRights s = _
  unfold execSetRights State.serveLink
  rw [State.serve_of_taken (p := .link) h]
  simp only [hw, Option.getD_some, State.linkReply]

/-! ## The power-on state -/

namespace State

theorem reset_windows (w : Fin 16) :
    State.reset.windows[w] = { enabled := false, base := 0, k := 0, cls := .lending, target := none } :=
  Vector.getElem_replicate ..

theorem reset_rights (d : DeskId) (c : Column) : State.reset.rights[d][c] = Right.none := by
  show ((Vector.replicate 15 (Vector.replicate 17 Right.none))[d.val])[c.val] = _
  rw [Vector.getElem_replicate, Vector.getElem_replicate]

theorem reset_standing (d : DeskId) : State.reset.standing[d] = none := Vector.getElem_replicate ..

theorem reset_pendingCount (src : Source) : State.reset.pendingCount src = 0 := Vector.getElem_replicate ..

/-- The band group of lane n is n divided by 2 (05 R86). -/
theorem reset_lane (l : LaneId) : State.reset.lane l = Lane.reset ⟨l.val / 2, by omega⟩ := by
  fin_cases l <;> rfl

theorem reset_arbiter (g : GroupId) :
    State.reset.arbiter g = { band := .free, tenureCount := 0, guardEnd := 0, lastHolder := none } :=
  Vector.getElem_replicate ..

end State

theorem Lane.reset_head (g : GroupId) (h : HeadPos) : (Lane.reset g).head h = HeadUnit.reset := by
  cases h <;> rfl

end Sys2Proof.Machine

/-! # The statements about stock windows, sources and standing, and the power-on values, settled. -/

namespace Sys2Proof.Proofs

open Sys2Proof Sys2Proof.Machine

/-- Settles O6: the window found by the search is the one that the statement names, and each branch of normalisation is read off
it. -/
theorem rawNumbersAreMatchedAndNormalised : Obligations.RawNumbersAreMatchedAndNormalised := by
  unfold Obligations.RawNumbersAreMatchedAndNormalised
  simp only [← StockWindow.covers_iff]
  intro s raw
  refine ⟨?matched, ?unmatched, ?rawItem, ?valid⟩
  case matched =>
    intro w covers first
    exact State.normalise_of_window (State.firstWindow_eq_some_iff.2 ⟨covers, first⟩)
  case unmatched =>
    intro uncovered
    exact State.normalise_of_no_window (State.firstWindow_eq_none_iff.2 uncovered)
  case rawItem => exact s.normalise_raw raw
  case valid =>
    intro targets low high
    exact State.normalise_item_valid targets ⟨low, high⟩

/-- Settles O7: as for raw numbers, with a window's image in place of its range. -/
theorem keyLookupUsesTheWindowImages : Obligations.KeyLookupUsesTheWindowImages := by
  unfold Obligations.KeyLookupUsesTheWindowImages
  simp only [← StockWindow.imageHolds_iff]
  intro s key
  constructor
  · intro w holds first
    rw [State.keyLookup_of_window (State.firstWindow_eq_some_iff.2 ⟨holds, first⟩)]
    exact ⟨rfl, rfl⟩
  · intro noImage
    exact State.keyLookup_of_no_window (State.firstWindow_eq_none_iff.2 noImage)

/-- Settles O9: each command is one service of the taken request, and STANDING END leaves both the request and the table port,
so END STANDING after it still finds its request. -/
theorem standingIsGrantedClearedAndEnds : Obligations.StandingIsGrantedClearedAndEnds := by
  unfold Obligations.StandingIsGrantedClearedAndEnds
  refine ⟨?standing, ?endStanding, ?standingEnd⟩
  case standing =>
    intro s d kind i taken
    refine ⟨fun invalid => ?_, fun low high other => ?_, fun low high staff => ?_⟩
    · rw [← validItem_iff, Bool.not_eq_true] at invalid
      exact exec_standing_of_taken taken (s.standingRequest_of_invalid d invalid)
    · have valid := (validItem_iff i).2 ⟨low, high⟩
      exact exec_standing_of_taken taken (State.standingRequest_of_other_class d valid other)
    · have valid := (validItem_iff i).2 ⟨low, high⟩
      exact exec_standing_of_taken taken (State.standingRequest_of_staff d valid staff)
  case endStanding =>
    intro s d kind taken
    refine ⟨exec_endStanding_of_taken taken, fun t u ended answered => ?_⟩
    obtain ⟨deskKept, portKept⟩ := exec_standingEnd_ports ended
    have stillTaken : t.desk.work = .taken (.desk d) kind .endStanding := by rw [deskKept, taken]
    rw [exec_endStanding_of_taken stillTaken] at answered
    cases answered
    simp [portKept]
  case standingEnd =>
    intro s d r held reached
    exact exec_standingEnd_of_over ((s.standingOver_iff d).2 ⟨r, held, reached⟩)

/-- Settles O11: the record is found exactly where no check refuses it. -/
theorem setWindowReplacesACheckedRecord : Obligations.SetWindowReplacesACheckedRecord := by
  unfold Obligations.SetWindowReplacesACheckedRecord
  intro s kind v taken refused
  constructor
  · intro (h : v.Refused)
    exact exec_setWindow_of_no_record taken (RawWindow.record_of_refused h)
  · intro (h : ¬ v.Refused)
    obtain ⟨w, c, hw, hc, found⟩ := RawWindow.record_of_not_refused h
    exact ⟨w, c, hw, hc, exec_setWindow_of_record taken found⟩

/-- Refutes O12: a right out of range is not refused. The model reads it as NONE, so SET RIGHTS with right 5 for desk 1 and
column 0 takes away the right BOTH that stood there, where the statement wants the map unchanged. -/
theorem not_setRightsWritesACellOrARow : ¬ Obligations.SetRightsWritesACellOrARow := by
  unfold Obligations.SetRightsWritesACellOrARow
  intro h
  have refused := (h
    { State.reset with
        rights := Vector.replicate 15 (Vector.replicate 17 Right.both)
        link := { State.reset.link with work := .taken .link 18 (.setRights 1 0 5) } }
    18 1 0 5 rfl).1 (by decide)
  have write : rightsWrite 1 0 5 = some (0, [0], Right.none) :=
    rightsWrite_of_named rfl rfl (Right.ofNumber_of_four_lt (by decide))
  rw [exec_setRights_of_write rfl write] at refused
  have cells := congrArg (fun t : State => t.rights[0][0]) (Host.Outcome.next.inj refused)
  exact absurd cells (by decide)

/-- Settles O4: the fields of the power-on state, with the rules for its windows, rights, standing records, pending counts,
lanes and arbiters. -/
theorem resetStateOfEveryBlock : Obligations.ResetStateOfEveryBlock := by
  unfold Obligations.ResetStateOfEveryBlock
  refine ⟨⟨rfl, rfl, State.reset_windows, State.reset_rights, State.reset_standing, rfl, State.reset_pendingCount, rfl, rfl,
    rfl, rfl, rfl, rfl, rfl, rfl, rfl, rfl, rfl, rfl, rfl, rfl, rfl, rfl, rfl, rfl, rfl, rfl, rfl⟩, fun l => ?lane,
    State.reset_arbiter⟩
  rw [State.reset_lane]
  refine ⟨rfl, rfl, rfl, rfl, rfl, rfl, rfl, rfl, rfl, rfl, rfl, fun h => ?head⟩
  rw [Lane.reset_head]
  exact ⟨rfl, rfl, rfl, rfl, rfl, rfl, rfl, rfl⟩

end Sys2Proof.Proofs

/-! # The clearance table

What one write does to the list of entries, and how a sound table stays sound under it. -/

namespace Sys2Proof.Machine

/-! ## One entry of the list rewritten -/

/-- A list of entries that rises strictly by item, so no two share an item (02 R18). -/
abbrev Rising (es : List Entry) : Prop := es.Pairwise fun a b => a.item < b.item

/-- From `es` to `es'` the entry `old` has left and the entry `new` has come: the order is kept, and what every test counts says
that no other entry changed. -/
structure Rewritten (es es' : List Entry) (old new : Option Entry) : Prop where
  rising : Rising es'
  counts : ∀ test : Entry → Bool,
    es'.countP test + old.toList.countP test = es.countP test + new.toList.countP test

theorem find_item_of_all_above {es : List Entry} {i : Item} (above : ∀ x ∈ es, i < x.item) :
    es.find? (fun x => x.item == i) = none := by
  rw [List.find?_eq_none]
  intro x hx same
  exact Nat.ne_of_gt (above x hx) (by simpa using same)

theorem filter_item_of_all_above {es : List Entry} {i : Item} (above : ∀ x ∈ es, i < x.item) :
    (es.filter fun e => e.item != i) = es := by
  rw [List.filter_eq_self]
  intro x hx
  simpa using Nat.ne_of_gt (above x hx)

/-- An entry that is written takes the place of the entry of its item. -/
theorem rewritten_insertEntry {es : List Entry} (h : Rising es) (e : Entry) :
    Rewritten es (insertEntry e es) (es.find? fun x => x.item == e.item) (some e) := by
  refine ⟨insertEntry_ordered h, fun test => ?_⟩
  induction es with
  | nil => simp [insertEntry, List.countP_cons]
  | cons y ys ih =>
    obtain ⟨above, rest⟩ := List.pairwise_cons.1 h
    rw [insertEntry]
    rcases Nat.lt_trichotomy e.item y.item with lt | eq | gt
    · have none : (y :: ys).find? (fun x => x.item == e.item) = none :=
        find_item_of_all_above fun x hx => by
          rcases List.mem_cons.1 hx with rfl | hx
          · exact lt
          · exact Nat.lt_trans lt (above x hx)
      rw [if_pos lt, none]
      simp [List.countP_cons]
    · rw [if_neg (Nat.not_lt.2 (Nat.le_of_eq eq.symm)), if_pos eq, List.find?_cons_of_pos (by simp [eq])]
      simp [List.countP_cons]
      omega
    · rw [if_neg (Nat.lt_asymm gt), if_neg (Nat.ne_of_gt gt), List.find?_cons_of_neg (by simpa using Nat.ne_of_lt gt)]
      have := ih rest
      simp only [List.countP_cons] at this ⊢
      omega

/-- The entry of an item leaves, and no other. -/
theorem rewritten_filter {es : List Entry} (h : Rising es) (i : Item) :
    Rewritten es (es.filter fun e => e.item != i) (es.find? fun x => x.item == i) none := by
  refine ⟨h.filter _, fun test => ?_⟩
  induction es with
  | nil => rfl
  | cons y ys ih =>
    obtain ⟨above, rest⟩ := List.pairwise_cons.1 h
    by_cases hy : y.item = i
    · subst hy
      rw [List.filter_cons_of_neg (by simp), List.find?_cons_of_pos (by simp), filter_item_of_all_above above]
      simp [List.countP_cons]
    · rw [List.filter_cons_of_pos (by simpa using hy), List.find?_cons_of_neg (by simpa using hy)]
      have := ih rest
      simp only [List.countP_cons] at this ⊢
      omega

/-! ## A sound table -/

theorem Source.index_inj {a b : Source} : a.index = b.index ↔ a = b := by
  cases a with
  | link => cases b with
    | link => simp
    | desk d => simp [index, (Fin.succ_ne_zero d).symm]
  | desk c => cases b with
    | link => simp [index]
    | desk d => simp [index]

namespace State

/-- The entries rise by item, the pending counts are exact and the limits are kept (02 R18, R28). -/
structure TableSound (s : State) : Prop where
  ordered : s.tableOrdered
  exactCounts : s.pendingCountsExact
  limits : s.tableWithinLimits

theorem tableSound_iff (s : State) :
    s.TableSound ↔ s.tableOrdered ∧ s.pendingCountsExact ∧ s.tableWithinLimits :=
  ⟨fun ⟨a, b, c⟩ => ⟨a, b, c⟩, fun ⟨a, b, c⟩ => ⟨a, b, c⟩⟩

/-- Soundness is about the entries and the pending counts alone. -/
theorem TableSound.of_same {s t : State} (h : s.TableSound) (entries : t.table.entries = s.table.entries)
    (counts : t.table.pendingCounts = s.table.pendingCounts) : t.TableSound := by
  obtain ⟨ordered, exactCounts, limits⟩ := h
  refine ⟨?_, ?_, ?_⟩
  · unfold tableOrdered at *
    rwa [entries]
  · unfold pendingCountsExact pendingCount pendingOf at *
    rwa [entries, counts]
  · unfold tableWithinLimits stageCount pendingOf at *
    rwa [entries]

theorem TableSound.of_table {s t : State} (h : s.TableSound) (table : t.table = s.table) : t.TableSound :=
  h.of_same (by rw [table]) (by rw [table])

/-- An entry counts for a source where it is PENDING and of that source. -/
def countsFor (src : Source) (e : Entry) : Bool := e.stage == .pending && e.source == src

theorem countsFor_of_not_pending {e : Entry} (h : e.stage ≠ .pending) (src : Source) : countsFor src e = false := by
  simp [countsFor, h]

theorem countsFor_of_pending {e : Entry} (h : e.stage = .pending) (src : Source) :
    countsFor src e = decide (e.source = src) := by
  simp only [countsFor, h, beq_self_eq_true, Bool.true_and]
  rfl

/-- A table stays sound when one entry is rewritten, the pending counts follow it, and what comes keeps the limits. -/
theorem TableSound.rewritten {s t : State} {old new : Option Entry} (h : s.TableSound)
    (entries : Rewritten s.table.entries t.table.entries old new)
    (counts : ∀ src, t.pendingCount src + old.toList.countP (countsFor src)
      = s.pendingCount src + new.toList.countP (countsFor src))
    (size : s.table.entries.length + new.toList.length ≤ 4096 + old.toList.length)
    (pending : s.stageCount .pending + new.toList.countP (·.stage == .pending)
      ≤ 256 + old.toList.countP (·.stage == .pending))
    (share : ∀ src, s.pendingOf src + new.toList.countP (countsFor src) ≤ 32 + old.toList.countP (countsFor src)) :
    t.TableSound := by
  have exact_ := h.exactCounts
  refine ⟨entries.rising, fun src => ?_, ?_, ?_, fun src => ?_⟩
  · have := entries.counts (countsFor src)
    have := counts src
    have before : s.pendingCount src = s.table.entries.countP (countsFor src) := exact_ src
    show t.pendingCount src = t.table.entries.countP (countsFor src)
    omega
  · have := entries.counts fun _ => true
    simp only [List.countP_true] at this
    show t.table.entries.length ≤ 4096
    omega
  · have := entries.counts (·.stage == .pending)
    show t.table.entries.countP (·.stage == .pending) ≤ 256
    unfold stageCount at pending
    omega
  · have := entries.counts (countsFor src)
    have before : s.pendingOf src + _ ≤ _ := share src
    show t.table.entries.countP (countsFor src) ≤ 32
    have : s.pendingOf src = s.table.entries.countP (countsFor src) := rfl
    omega

theorem countP_of_not_pending {o : Option Entry} (h : ∀ e ∈ o, e.stage ≠ .pending) :
    o.toList.countP (·.stage == .pending) = 0 ∧ ∀ src, o.toList.countP (countsFor src) = 0 := by
  cases o with
  | none => simp
  | some e =>
    have := h e rfl
    simp [this, countsFor_of_not_pending this]

/-- An entry that is not PENDING, or none, gives its place to one that is not PENDING, or to none. -/
theorem TableSound.rewritten_quiet {s t : State} {old new : Option Entry} (h : s.TableSound)
    (entries : Rewritten s.table.entries t.table.entries old new)
    (counts : t.table.pendingCounts = s.table.pendingCounts)
    (left : ∀ e ∈ old, e.stage ≠ .pending) (came : ∀ e ∈ new, e.stage ≠ .pending)
    (room : new.isSome → old.isSome ∨ s.table.entries.length < Config.tableCapacity) : t.TableSound := by
  obtain ⟨oldPending, oldShare⟩ := countP_of_not_pending left
  obtain ⟨newPending, newShare⟩ := countP_of_not_pending came
  obtain ⟨size, pending, share⟩ := h.limits
  simp only [Config.tableCapacity] at size room
  refine h.rewritten entries (fun src => ?_) ?_ ?_ fun src => ?_
  · rw [oldShare, newShare]
    unfold pendingCount
    rw [counts]
  · cases old <;> cases new <;> simp at room ⊢ <;> omega
  · rw [oldPending, newPending]
    exact pending
  · rw [oldShare, newShare]
    exact share src

/-- A PENDING entry of the table is counted. -/
theorem TableSound.pendingCount_pos {s : State} (h : s.TableSound) {e : Entry} (mem : e ∈ s.table.entries)
    (pending : e.stage = .pending) : 0 < s.pendingCount e.source := by
  rw [h.exactCounts]
  exact List.countP_pos_iff.2 ⟨e, mem, by simp [pending]⟩

/-- A PENDING entry leaves, or gives its place to one that is not PENDING, and its source's count falls by one. -/
theorem TableSound.rewritten_lowered {s t : State} {e : Entry} {new : Option Entry} (h : s.TableSound)
    (entries : Rewritten s.table.entries t.table.entries (some e) new) (mem : e ∈ s.table.entries)
    (left : e.stage = .pending) (came : ∀ x ∈ new, x.stage ≠ .pending)
    (counts : t.table.pendingCounts = (s.lowerPending e.source).table.pendingCounts) : t.TableSound := by
  obtain ⟨newPending, newShare⟩ := countP_of_not_pending came
  obtain ⟨size, pending, share⟩ := h.limits
  simp only [Config.tableCapacity] at size
  refine h.rewritten entries (fun src => ?_) ?_ ?_ fun src => ?_
  · have lowered : t.pendingCount src = (s.lowerPending e.source).pendingCount src := by
      unfold pendingCount
      rw [counts]
    have := h.pendingCount_pos mem left
    rw [newShare, lowered, lowerPending, pendingCount_setPendingCount]
    by_cases same : src = e.source
    · subst same
      simp [countsFor_of_pending left]
      omega
    · simp [countsFor_of_pending left, Source.index_inj, same, Ne.symm same]
  · cases new <;> simp <;> omega
  · rw [newPending]
    exact Nat.le_add_right_of_le pending
  · rw [newShare]
    exact Nat.le_add_right_of_le (share src)

/-- A PENDING entry gives its place to one of the same source. -/
theorem TableSound.rewritten_pending {s t : State} {e e' : Entry} (h : s.TableSound)
    (entries : Rewritten s.table.entries t.table.entries (some e) (some e'))
    (counts : t.table.pendingCounts = s.table.pendingCounts) (stage : e'.stage = e.stage) (source : e'.source = e.source) :
    t.TableSound := by
  obtain ⟨size, pending, share⟩ := h.limits
  have same : ∀ src, countsFor src e' = countsFor src e := fun src => by simp [countsFor, stage, source]
  refine h.rewritten entries (fun src => ?_) (Nat.add_le_add_right size _) ?_ fun src => ?_
  · simp only [Option.toList_some, List.countP_singleton, same]
    unfold pendingCount
    rw [counts]
  · simp only [Option.toList_some, List.countP_singleton, stage]
    exact Nat.add_le_add_right pending _
  · simp only [Option.toList_some, List.countP_singleton, same]
    exact Nat.add_le_add_right (share src) _

/-- A PENDING entry comes where none of its item stood, within both limits, and its source's count rises by one. -/
theorem TableSound.rewritten_raised {s t : State} {e : Entry} (h : s.TableSound)
    (entries : Rewritten s.table.entries t.table.entries none (some e)) (came : e.stage = .pending)
    (room : s.table.entries.length < Config.tableCapacity) (all : s.stageCount .pending < Config.pendingCapacity)
    (own : s.pendingCount e.source < Config.pendingPerSource)
    (counts : t.table.pendingCounts = (s.raisePending e.source).table.pendingCounts) : t.TableSound := by
  obtain ⟨-, -, share⟩ := h.limits
  have exactOwn := h.exactCounts e.source
  simp only [Config.tableCapacity, Config.pendingCapacity, Config.pendingPerSource] at room all own share
  refine h.rewritten entries (fun src => ?_) ?_ ?_ fun src => ?_
  · have raised : t.pendingCount src = (s.raisePending e.source).pendingCount src := by
      unfold pendingCount
      rw [counts]
    rw [raised, raisePending, pendingCount_setPendingCount]
    by_cases same : src = e.source
    · subst same
      simp [countsFor_of_pending came]
    · simp [countsFor_of_pending came, Source.index_inj, same, Ne.symm same]
  · simp
    omega
  · simp [came]
    omega
  · by_cases same : src = e.source
    · subst same
      simp [countsFor_of_pending came]
      omega
    · simpa [countsFor_of_pending came, Ne.symm same] using share src

/-- In an ordered table an entry is the one found for its item. -/
theorem findEntry_of_mem {s : State} {e : Entry} (ordered : s.tableOrdered) (mem : e ∈ s.table.entries) :
    s.findEntry e.item = some e := by
  unfold findEntry
  obtain ⟨before, after, split⟩ := List.append_of_mem mem
  rw [tableOrdered, split] at ordered
  rw [split, List.find?_eq_some_iff_append]
  refine ⟨by simp, before, after, rfl, fun x hx => ?_⟩
  have := (List.pairwise_append.1 ordered).2.2 x hx e (by simp)
  simpa using Nat.ne_of_lt this

/-! ## Each write of a claim keeps the table sound -/

variable {s : State} {e : Entry} {i : Item}

theorem TableSound.dropEntry_quiet (h : s.TableSound) (i : Item) (quiet : ∀ e, s.findEntry i = some e → e.stage ≠ .pending) :
    (s.dropEntry i).TableSound :=
  h.rewritten_quiet (rewritten_filter h.ordered i) rfl quiet (by simp) (by simp)

theorem TableSound.putEntry_quiet (h : s.TableSound) (e : Entry) (quiet : ∀ x, s.findEntry e.item = some x → x.stage ≠ .pending)
    (came : e.stage ≠ .pending)
    (room : (s.findEntry e.item).isSome ∨ s.table.entries.length < Config.tableCapacity) : (s.putEntry e).TableSound :=
  h.rewritten_quiet (rewritten_insertEntry h.ordered e) rfl quiet (by simpa using came) fun _ => room

/-- A PENDING entry that leaves takes its count with it. -/
theorem TableSound.dropEntry_lowered (h : s.TableSound) (found : s.findEntry i = some e) (pending : e.stage = .pending) :
    ((s.dropEntry i).lowerPending e.source).TableSound := by
  refine h.rewritten_lowered (e := e) (new := none) ?_ (findEntry_mem found) pending (by simp) rfl
  rw [← found]
  exact rewritten_filter h.ordered i

/-- A PENDING entry that another stage replaces is counted no more. -/
theorem TableSound.putEntry_lowered (h : s.TableSound) {e' : Entry} (found : s.findEntry i = some e) (pending : e.stage = .pending)
    (item : e'.item = i) (came : e'.stage ≠ .pending) : ((s.putEntry e').lowerPending e.source).TableSound := by
  refine h.rewritten_lowered (e := e) (new := some e') ?_ (findEntry_mem found) pending (by simpa using came) rfl
  rw [← found, ← item]
  exact rewritten_insertEntry h.ordered e'

theorem TableSound.restartPending (h : s.TableSound) (found : s.findEntry i = some e) (o : ClaimOptions) :
    (s.restartPending e o).TableSound := by
  refine h.rewritten_pending (e := e) (e' := { e with
    due := s.hallTime + seconds s.hall.pendingLimit, batch := o.batch, lanes := o.lanes, allowance := s.allowanceOf o })
    ?_ rfl rfl rfl
  rw [← found, ← findEntry_item found]
  exact rewritten_insertEntry h.ordered _

theorem TableSound.createPending (h : s.TableSound) (absent : s.findEntry i = none)
    (room : s.table.entries.length < Config.tableCapacity) (all : s.stageCount .pending < Config.pendingCapacity)
    {src : Source} (own : s.pendingCount src < Config.pendingPerSource) (o : ClaimOptions) :
    (s.createPending i src o).TableSound := by
  refine h.rewritten_raised (e := s.newEntry i src o .pending (s.hallTime + seconds s.hall.pendingLimit))
    ?_ rfl room all own rfl
  rw [← absent]
  exact rewritten_insertEntry h.ordered _

theorem TableSound.createCleared (h : s.TableSound) (absent : s.findEntry i = none)
    (room : s.table.entries.length < Config.tableCapacity) (src : Source) (o : ClaimOptions) :
    (s.createCleared i src o).TableSound :=
  (h.putEntry_quiet (s.newEntry i src o .cleared (s.hallTime + minutes (s.allowanceOf o)))
    (by simp [newEntry, absent]) (by simp [newEntry]) (.inr room)).of_table rfl

theorem TableSound.confirmEntry (h : s.TableSound) (found : s.findEntry i = some e) (pending : e.stage = .pending)
    (a : Option Nat) : (s.confirmEntry e a).TableSound :=
  (h.putEntry_lowered found pending (e' := { e with
    stage := .cleared, allowance := a.getD e.allowance, due := s.hallTime + minutes (a.getD e.allowance) })
    (show e.item = i from findEntry_item found) (by simp)).of_table rfl

theorem TableSound.renewEntry (h : s.TableSound) (found : s.findEntry i = some e) (quiet : e.stage ≠ .pending)
    (o : ClaimOptions) : (s.renewEntry e o).TableSound := by
  have same : s.findEntry e.item = some e := by rwa [findEntry_item found]
  refine (h.putEntry_quiet { e with
    stage := .cleared, allowance := s.allowanceOf o, due := s.hallTime + minutes (s.allowanceOf o)
    batch := o.batch.or e.batch, lanes := o.lanes.or e.lanes } ?_ (by simp) (.inl ?_)).of_table rfl
  · simpa [same] using quiet
  · simp [same]

theorem TableSound.cancelEntry (h : s.TableSound) (found : s.findEntry i = some e) (pending : e.stage = .pending) :
    (s.cancelEntry e).TableSound := by
  have same : s.findEntry e.item = some e := by rwa [findEntry_item found]
  exact (h.dropEntry_lowered same pending).of_table rfl

theorem TableSound.settlePending (h : s.TableSound) (found : s.findEntry i = some e) (pending : e.stage = .pending)
    (a : Option Nat) (r : AlarmRecord) : (s.settlePending e a r).TableSound := by
  have same : s.findEntry e.item = some e := by rwa [findEntry_item found]
  unfold State.settlePending
  dsimp only
  split
  · exact (h.dropEntry_lowered same pending).of_table rfl
  · exact (h.putEntry_lowered same pending (e' := { e with
      stage := .departed, allowance := a.getD e.allowance, due := s.leewayEnd, exits := 1, lastLane := some r.lane })
      rfl (by simp)).of_table rfl

theorem TableSound.departEntry (h : s.TableSound) (found : s.findEntry i = some e) (quiet : e.stage ≠ .pending)
    (l : LaneId) : (s.departEntry e l).TableSound := by
  have same : s.findEntry e.item = some e := by rwa [findEntry_item found]
  have here : ∀ x, s.findEntry e.item = some x → x.stage ≠ .pending := by simpa [same] using quiet
  unfold State.departEntry
  split
  · exact h.dropEntry_quiet e.item here
  · exact h.putEntry_quiet _ here (by simp) (.inl (by simp [same]))

theorem TableSound.expireEntry (h : s.TableSound) (found : s.findEntry i = some e) : (s.expireEntry e).TableSound := by
  have same : s.findEntry e.item = some e := by rwa [findEntry_item found]
  unfold State.expireEntry
  dsimp only
  rcases stage : e.stage with _ | _ | _
  · exact (h.dropEntry_lowered same stage).of_same rfl rfl
  · exact (h.dropEntry_quiet e.item (by simp [same, stage])).of_same rfl rfl
  · exact h.dropEntry_quiet e.item (by simp [same, stage])

/-! ## Room made for one more entry -/

/-- Room made by an eviction or there already: the table is sound, has room, holds as many PENDING entries as before, and no item
has come into it. -/
theorem TableSound.makeRoom {t : State} (h : s.TableSound) (made : s.makeRoom = some t) :
    t.TableSound ∧ t.table.entries.length < Config.tableCapacity ∧ t.stageCount .pending = s.stageCount .pending
      ∧ (∀ src, t.pendingCount src = s.pendingCount src) ∧ ∀ i, s.findEntry i = none → t.findEntry i = none := by
  rcases s.makeRoom_cases with ⟨room, same⟩ | ⟨-, v, victim, evicted⟩ | ⟨-, -, none⟩
  · obtain rfl : s = t := by simpa [same] using made
    exact ⟨h, room, rfl, fun _ => rfl, fun _ => id⟩
  · obtain ⟨mem, departed, -⟩ := evictionVictim_spec victim
    have found : s.findEntry v.item = some v := findEntry_of_mem h.ordered mem
    have dropped := rewritten_filter h.ordered v.item
    rw [show s.table.entries.find? _ = some v from found] at dropped
    obtain rfl := Option.some.inj (evicted.symm.trans made)
    refine ⟨(h.dropEntry_quiet v.item (by simp [found, departed])).of_same rfl rfl, ?_, ?_, fun _ => rfl, fun i absent => ?_⟩
    · have := dropped.counts fun _ => true
      have full := h.limits.1
      simp only [List.countP_true, Option.toList_some, Option.toList_none, List.length_cons, List.length_nil] at this
      show (s.table.entries.filter _).length < _
      omega
    · have := dropped.counts (·.stage == .pending)
      simpa [departed, stageCount] using this
    · have := s.findEntry_dropEntry i v.item
      rw [absent, ite_self] at this
      exact this
  · rw [none] at made
    cases made

/-- A creating claim keeps the table sound where its entry does once there is room. -/
theorem TableSound.create {c : Code} {add : State → State} (h : s.TableSound)
    (add_sound : ∀ t, s.makeRoom = some t → (add t).TableSound) : (s.create c add).1.TableSound := by
  unfold State.create
  split
  next t made => exact add_sound t made
  · exact h.of_table rfl

theorem TableSound.settleAbsent (h : s.TableSound) (absent : s.findEntry i = none) (src : Source) (o : ClaimOptions)
    (r : AlarmRecord) : (s.settleAbsent i src o r).1.TableSound := by
  unfold State.settleAbsent
  split
  · exact h.of_table rfl
  · refine h.create fun t made => ?_
    obtain ⟨sound, room, -, -, still⟩ := h.makeRoom made
    exact (sound.putEntry_quiet _ (by simp [newEntry, still i absent]) (by simp [newEntry]) (.inr room)).of_table rfl

/-! ## The claims -/

theorem TableSound.holdClaim (h : s.TableSound) (i : Item) (src : Source) (o : ClaimOptions) :
    (s.holdClaim i src o).1.TableSound := by
  unfold State.holdClaim
  split
  next absent =>
    split
    · exact h
    next open_ =>
      refine h.create fun t made => ?_
      obtain ⟨sound, room, all, own, still⟩ := h.makeRoom made
      simp only [Bool.or_eq_true, decide_eq_true_eq, not_or, not_le] at open_
      exact sound.createPending (still i absent) room (by rw [all]; exact open_.1) (by rw [own]; exact open_.2) o
  next e found =>
    split
    · split
      · exact h.restartPending found o
      · exact h
    · exact h
    · exact h

theorem TableSound.createClearedClaim (h : s.TableSound) (absent : s.findEntry i = none) (src : Source) (o : ClaimOptions) :
    (s.create .done fun t => t.createCleared i src o).1.TableSound := by
  refine h.create fun t made => ?_
  obtain ⟨sound, room, -, -, still⟩ := h.makeRoom made
  exact sound.createCleared (still i absent) room src o

theorem TableSound.issueClaim (h : s.TableSound) (i : Item) (src : Source) (o : ClaimOptions) :
    (s.issueClaim i src o).1.TableSound := by
  unfold State.issueClaim
  split
  next absent =>
    split
    · exact h.settleAbsent absent src o _
    · exact h.createClearedClaim absent src o
  next e found =>
    split
    next pending =>
      split
      · split
        · exact h.settlePending found pending _ _
        · exact h.confirmEntry found pending _
      · exact h
    next cleared => exact h.renewEntry found (by simp [cleared]) o
    next departed => exact h.renewEntry found (by simp [departed]) o

theorem TableSound.confirmClaim (h : s.TableSound) (i : Item) (src : Source) (o : ClaimOptions) :
    (s.confirmClaim i src o).1.TableSound := by
  unfold State.confirmClaim
  split
  next absent =>
    split
    · exact h.settleAbsent absent src o _
    · exact h
  next e found =>
    split
    next pending =>
      split
      · split
        · exact h.settlePending found pending _ _
        · exact h.confirmEntry found pending _
      · exact h
    · exact h
    · exact h

theorem TableSound.cancelClaim (h : s.TableSound) (i : Item) (src : Source) : (s.cancelClaim i src).1.TableSound := by
  unfold State.cancelClaim
  split
  · exact h
  next e found =>
    split
    next pending =>
      split
      · exact h.cancelEntry found pending
      · exact h
    · exact h
    · exact h

theorem TableSound.dischargeClaim (h : s.TableSound) (i : Item) : (s.dischargeClaim i).1.TableSound := by
  unfold State.dischargeClaim
  split
  · exact h
  next e found =>
    split
    · exact h
    next cleared => exact h.dropEntry_quiet i (by simp [found, cleared])
    next departed => exact h.dropEntry_quiet i (by simp [found, departed])

theorem TableSound.loadClaim (h : s.TableSound) (i : Item) (o : ClaimOptions) : (s.loadClaim i o).1.TableSound := by
  unfold State.loadClaim
  split
  next absent => exact h.createClearedClaim absent .link o
  next e found =>
    split
    · exact h
    next cleared => exact h.renewEntry found (by simp [cleared]) o
    next departed => exact h.renewEntry found (by simp [departed]) o

theorem TableSound.itemClaim (h : s.TableSound) (k : ItemKind) (i : Item) (src : Source) (o : ClaimOptions) :
    (s.itemClaim k i src o).1.TableSound := by
  cases k with
  | hold => exact h.holdClaim i src o
  | issue => exact h.issueClaim i src o
  | confirm => exact h.confirmClaim i src o
  | cancel => exact h.cancelClaim i src
  | discharge => exact h.dischargeClaim i
  | query => exact h
  | load => exact h.loadClaim i o

/-- The entry that a series selects is the one found for its item, and is PENDING. -/
theorem batchEntry_spec (ordered : s.tableOrdered) {sel : Source} {b : Nat} {cursor : Item}
    (h : s.batchEntry sel b cursor = some e) : s.findEntry e.item = some e ∧ e.stage = .pending := by
  have test := List.find?_some h
  simp only [Bool.and_eq_true, beq_iff_eq] at test
  exact ⟨findEntry_of_mem ordered (List.mem_of_find?_eq_some h), test.1.1.2⟩

theorem TableSound.batchClaim (h : s.TableSound) (k : BatchKind) (requester : Source) (found : s.findEntry i = some e)
    (pending : e.stage = .pending) : (s.batchClaim k requester e).1.TableSound := by
  unfold State.batchClaim
  cases k with
  | confirm =>
    dsimp only
    split
    · exact h.confirmEntry found pending none
    · exact h
  | cancel => exact h.cancelEntry found pending

/-- A table with no entry and no count is sound. -/
theorem tableSound_of_empty {s : State} (entries : s.table.entries = []) (counts : s.table.pendingCounts = Vector.replicate 16 0) :
    s.TableSound := by
  refine ⟨?_, fun src => ?_, ?_, ?_, fun src => ?_⟩
  · simp [tableOrdered, entries]
  · simp [pendingCount, pendingOf, entries, counts]
  · simp [entries]
  · simp [stageCount, entries]
  · simp [pendingOf, entries]

theorem TableSound.clearTableClaim (h : s.TableSound) : s.clearTableClaim.1.TableSound := by
  unfold State.clearTableClaim
  split
  · exact tableSound_of_empty rfl rfl
  · exact h

theorem TableSound.judgeEffect (h : s.TableSound) (i : Item) (l : LaneId) : (s.judgeEffect i l).TableSound := by
  unfold State.judgeEffect
  split
  next e pass found =>
    refine h.departEntry found (fun pending => ?_) l
    simp [judgeAnswer, found, pending] at pass
  · exact h

theorem TableSound.expiryEffect (h : s.TableSound) (i : Item) : (s.expiryEffect i).TableSound := by
  unfold State.expiryEffect
  split
  next found =>
    split
    · exact h.expireEntry found
    · exact h
  · exact h

end State
end Sys2Proof.Machine

/-! # What the commands leave of the table

Every command but the claims leaves the table's entries and pending counts as they were. -/

namespace Sys2Proof.Machine

theorem LanesOnly.table {s t : State} (h : LanesOnly s t) : t.table = s.table := by rw [h]
theorem JudgingOnly.table {s t : State} (h : JudgingOnly s t) : t.table = s.table := by rw [h]
theorem PortsOnly.table {s t : State} (h : PortsOnly s t) : t.table = s.table := by rw [h]

namespace State

@[simp] theorem drive_table (s : State) : s.drive.table = s.table := (lanesOnly_drive s).table
@[simp] theorem workItems_table (s : State) (p : PortId) (k : ItemKind) (src : Source) (o : ClaimOptions) (xs : List RawItem)
    (rs : List ItemResult) : (s.workItems p k src o xs rs).table = s.table := (portsOnly_workItems ..).table
@[simp] theorem offerClaim_table (s : State) (p : PortId) (c : Claim) : (s.offerClaim p c).table = s.table :=
  (portsOnly_offerClaim ..).table
@[simp] theorem takeFrom_table (s : State) (p : PortId) : (s.takeFrom p).table = s.table := (portsOnly_takeFrom ..).table

/-! ## Requests -/

/-- What holds of a state before a request is served, and of each state that its work comes to, holds after. -/
theorem serve_keeps {motive : State → Prop} {s : State} (p : PortId) {f : Source → Byte → Request → Option State}
    (base : motive s) (work : ∀ src kind r t, s.workOf p = .taken src kind r → f src kind r = some t → motive t) :
    motive (s.serve p f) := by
  unfold serve
  split
  next src kind r taken =>
    cases answer : f src kind r with
    | none => exact base
    | some t => exact work src kind r t taken answer
  all_goals exact base

theorem portsOnly_beginItems (s : State) (p : PortId) (k : ItemKind) (src : Source) (o : RawOptions) (xs : List RawItem) :
    PortsOnly s (s.beginItems p k src o xs) := by
  unfold beginItems
  split
  · exact portsOnly_workItems ..
  · exact portsOnly_replyOn ..

theorem portsOnly_beginBatch (s : State) (p : PortId) (k : BatchKind) (src : Source) (b : Nat) (named : Option Nat) :
    PortsOnly s (s.beginBatch p k src b named) := by
  unfold beginBatch
  split
  · split
    · exact portsOnly_replyOn ..
    · exact (portsOnly_offerClaim ..).trans (portsOnly_setWork ..)
  · exact portsOnly_replyOn ..

theorem portsOnly_serveItems (s : State) (p : PortId) (k : ItemKind) : PortsOnly s (s.serveItems p k) := by
  refine serve_keeps p (PortsOnly.refl s) fun src kind r t _ answer => ?_
  split at answer
  · split at answer
    · cases answer; exact portsOnly_beginItems ..
    · cases answer
  · cases answer

theorem portsOnly_serveBatch (s : State) (p : PortId) (k : BatchKind) : PortsOnly s (s.serveBatch p k) := by
  refine serve_keeps p (PortsOnly.refl s) fun src kind r t _ answer => ?_
  split at answer
  · split at answer
    · cases answer; exact portsOnly_beginBatch ..
    · cases answer
  · cases answer

/-- A lane command of a port keeps what holds of a state after its act, after a reply and after the outputs are driven. -/
theorem laneRequest_keeps {motive : State → Prop} {s : State} {p : PortId} {src : Source} {kind : Byte} {lane : Nat}
    {act : LaneId → State × List Byte} (base : motive s) (acts : ∀ l, motive (act l).1)
    (replies : ∀ t bs, motive t → motive (t.replyOn p kind bs)) (drives : ∀ t, motive t → motive t.drive) :
    motive (s.laneRequest p src kind lane act) := by
  unfold laneRequest
  split
  · exact replies _ _ base
  next l _ =>
    split
    · exact drives _ (replies _ _ (acts l))
    · exact replies _ _ base

theorem serveAckLane_table (s : State) (p : PortId) : (s.serveAckLane p).table = s.table := by
  refine serve_keeps (motive := fun t => t.table = s.table) p rfl fun src kind r t _ answer => ?_
  split at answer
  · cases answer
    exact laneRequest_keeps (motive := fun t => t.table = s.table) rfl (fun _ => rfl) (fun _ _ h => by simpa using h)
      fun _ h => by simpa using h
  · cases answer

theorem serveRestartLane_table (s : State) (p : PortId) : (s.serveRestartLane p).table = s.table := by
  refine serve_keeps (motive := fun t => t.table = s.table) p rfl fun src kind r t _ answer => ?_
  split at answer
  · cases answer
    exact laneRequest_keeps (motive := fun t => t.table = s.table) rfl (fun l => (judgingOnly_restartLane s l).table)
      (fun _ _ h => by simpa using h) fun _ h => by simpa using h
  · cases answer

theorem standingRequest_table (s : State) (d : DeskId) (i : Item) : (s.standingRequest d i).1.table = s.table := by
  unfold standingRequest
  dsimp only
  split
  · rfl
  · split <;> rfl

theorem serveStanding_table (s : State) : s.serveStanding.table = s.table := by
  refine serve_keeps (motive := fun t => t.table = s.table) .desk rfl fun src kind r t _ answer => ?_
  split at answer
  next d i _ =>
    have kept := s.standingRequest_table d i
    generalize s.standingRequest d i = result at answer kept
    cases answer
    simpa using kept
  · cases answer

theorem serveEndStanding_table (s : State) : s.serveEndStanding.table = s.table := by
  refine serve_keeps (motive := fun t => t.table = s.table) .desk rfl fun src kind r t _ answer => ?_
  split at answer
  · cases answer; rfl
  · cases answer

theorem foldl_lanes_keeps {motive : State → Prop} {f : State → LaneId → State} (act : ∀ t l, motive t → motive (f t l))
    (ls : List LaneId) {s : State} (base : motive s) : motive (ls.foldl f s) := by
  induction ls generalizing s with
  | nil => exact base
  | cons l ls ih => exact ih (act s l base)

theorem withLane_table {s : State} {kind : Byte} {lane : Nat} {act : LaneId → State}
    (h : ∀ l, (act l).table = s.table) : (s.withLane kind lane act).table = s.table := by
  unfold withLane
  split
  · exact h _
  · simp [linkReply]


/-! ## Heads -/

theorem lanesOnly_takeIdent (s : State) (l : LaneId) (h position : HeadPos) : LanesOnly s (s.takeIdent l h position) := by
  unfold takeIdent
  split
  · split <;> exact (lanesOnly_modHead ..).trans (lanesOnly_leaveStarting ..)
  · exact lanesOnly_modHead ..

theorem lanesOnly_takeRound (s : State) (l : LaneId) (h : HeadPos) (q : BitVec 8) (overflow : Bool) (codes : List TagCode) :
    LanesOnly s (s.takeRound l h q overflow codes) := by
  unfold takeRound
  split
  · exact (lanesOnly_modHead ..).trans (lanesOnly_roundEnded ..)
  · exact lanesOnly_modHead ..

theorem lanesOnly_takeProbe (s : State) (l : LaneId) (h : HeadPos) (q : BitVec 8) (found : Bool) :
    LanesOnly s (s.takeProbe l h q found) := by
  unfold takeProbe
  dsimp only
  split
  · split
    · exact (lanesOnly_modHead ..).trans (lanesOnly_probeFound ..)
    · exact (lanesOnly_modHead ..).trans (lanesOnly_probeHeadEnded ..)
  · exact lanesOnly_modHead ..

theorem lanesOnly_discardMessage (s : State) (l : LaneId) (h : HeadPos) : LanesOnly s (s.discardMessage l h) := by
  unfold discardMessage
  dsimp only
  split
  · exact (lanesOnly_modHead ..).trans (lanesOnly_attemptFailed ..)
  · exact lanesOnly_modHead ..

theorem lanesOnly_sendAbort (s : State) (l : LaneId) (h : HeadPos) : LanesOnly s (s.sendAbort l h) := by
  unfold sendAbort
  dsimp only
  split
  · split
    · exact (lanesOnly_modHead ..).trans (lanesOnly_startProbe ..)
    · exact lanesOnly_modHead ..
  · exact LanesOnly.refl s

theorem lanesOnly_takeReport (s : State) (l : LaneId) (r : CycleReport) : LanesOnly s (s.takeReport l r) := by
  unfold takeReport
  dsimp only
  split
  · exact lanesOnly_modLane ..
  · exact (lanesOnly_modLane ..).trans (lanesOnly_raise ..)

/-! ## The judgement unit -/

theorem judgingOnly_handOver (s : State) (l : LaneId) (raw : Option Item) (j : Judgement) : JudgingOnly s (s.handOver l raw j) := by
  unfold handOver
  dsimp only
  split
  · rfl
  · exact JudgingOnly.trans (t := (s.modJudgement j.item fun e => { e with owner := l, raw := raw }).giveShadow j.owner j.item)
      rfl ((judgingOnly_ignoreProbe ..).trans (judgingOnly_verify ..))
  all_goals rfl

theorem judgingOnly_takePassage (s : State) (l : LaneId) (i : Item) (raw : Option Item) (cls : ItemClass) :
    JudgingOnly s (s.takePassage l i raw cls) := by
  unfold takePassage
  split
  · split
    · exact judgingOnly_handOver ..
    · exact judgingOnly_giveShadow ..
  · split
    · rfl
    · rfl
    · exact (judgingOnly_addJudgement ..).trans (judgingOnly_verify ..)
    all_goals exact (judgingOnly_addJudgement ..).trans (judgingOnly_joinAsking ..)

theorem judgingOnly_actOnAnswer (s : State) (i : Item) (a : JudgeAnswer) : JudgingOnly s (s.actOnAnswer i a) := by
  unfold actOnAnswer
  dsimp only
  split
  · exact JudgingOnly.refl s
  · split
    · exact judgingOnly_givePass ..
    · exact judgingOnly_modJudgement ..
    · split
      · exact (judgingOnly_modJudgement ..).trans (judgingOnly_verify ..)
      · exact judgingOnly_modJudgement ..
    · exact (judgingOnly_modJudgement ..).trans (judgingOnly_verify ..)

theorem judgingOnly_takeAnswer (s : State) (i : Item) (a : JudgeAnswer) : JudgingOnly s (s.takeAnswer i a) := by
  unfold takeAnswer
  dsimp only
  split
  · refine JudgingOnly.trans ?_ (judgingOnly_offerJudge _)
    refine JudgingOnly.trans ?_ (judgingOnly_actOnAnswer _ i a)
    rfl
  · refine JudgingOnly.trans ?_ (judgingOnly_offerJudge _)
    rfl

theorem judgingOnly_askAgain (s : State) (i : Item) : JudgingOnly s (s.askAgain i) :=
  (judgingOnly_modJudgement ..).trans (judgingOnly_joinAsking ..)

theorem judgingOnly_takeNotice (s : State) (i : Item) (k : ChangeKind) : JudgingOnly s (s.takeNotice i k) := by
  unfold takeNotice
  split
  · exact JudgingOnly.refl s
  · split
    · exact JudgingOnly.refl s
    · split
      · exact judgingOnly_askAgain ..
      · exact judgingOnly_askAgain ..
      · exact judgingOnly_modJudgement ..
      · exact judgingOnly_verify ..
      · exact (judgingOnly_ignoreProbe ..).trans (judgingOnly_askAgain ..)
      · exact (judgingOnly_ignoreProbe ..).trans (judgingOnly_modJudgement ..)
      all_goals exact JudgingOnly.refl s

theorem judgingOnly_takeProbeResult (s : State) (l : LaneId) : JudgingOnly s (s.takeProbeResult l) := by
  unfold takeProbeResult
  dsimp only
  split
  · exact JudgingOnly.refl s
  next r results _ =>
    refine JudgingOnly.trans (lanesOnly_modLane s l fun x => { x with results := results }).judging ?_
    split
    · unfold actOnProbe
      split
      · exact JudgingOnly.refl _
      · split
        · exact judgingOnly_giveAlarm ..
        · exact judgingOnly_giveAlarm ..
        · exact judgingOnly_giveStray ..
    · exact JudgingOnly.refl _

/-! ## The claims as the table port takes them -/

theorem portsOnly_continueBatch (s : State) (p : PortId) (k : BatchKind) (c : Claim) (n : Nat) :
    PortsOnly s (s.continueBatch p k c n) := by
  unfold continueBatch
  split
  · exact portsOnly_replyOn ..
  · exact (portsOnly_offerClaim ..).trans (portsOnly_setWork ..)

variable {s : State}

theorem TableSound.takeItemClaim (h : s.TableSound) (k : ItemKind) : (s.takeItemClaim k).TableSound := by
  unfold State.takeItemClaim
  split
  next p k' i src o _ =>
    split
    · have claimed := (h.of_table (takeFrom_table s p)).itemClaim k i src o
      dsimp only
      split
      · exact claimed.of_table (by simp)
      · exact claimed
    · exact h
  · exact h

theorem TableSound.takeBatchClaim (h : s.TableSound) (k : BatchKind) : (s.takeBatchClaim k).TableSound := by
  unfold State.takeBatchClaim
  split
  next p k' requester sel b cursor _ =>
    split
    · have taken := h.of_table (takeFrom_table s p)
      dsimp only
      split
      · split
        · exact taken.of_table (by simp)
        · exact taken
      next e selected =>
        obtain ⟨found, pending⟩ := batchEntry_spec taken.ordered selected
        have claimed := taken.batchClaim k requester found pending
        split
        · exact claimed.of_table (portsOnly_continueBatch ..).table
        · exact claimed
    · exact h
  · exact h

theorem TableSound.takeClearTableClaim (h : s.TableSound) : s.takeClearTableClaim.TableSound := by
  unfold State.takeClearTableClaim
  split
  next p _ => exact (h.of_table (takeFrom_table s p)).clearTableClaim.of_table (by simp)
  · exact h

theorem takeWalkClaim_table (s : State) : s.takeWalkClaim.table = s.table := by
  unfold State.takeWalkClaim
  split
  · simp
  · rfl

theorem TableSound.takeJudgeClaim (h : s.TableSound) : s.takeJudgeClaim.TableSound := by
  unfold State.takeJudgeClaim
  split
  next i l _ _ => exact ((h.of_table rfl : (s.setPort (s.port.served .judge)).TableSound).judgeEffect i l).of_table rfl
  · exact h

theorem offerExpiry_table (s : State) : s.offerExpiry.table = s.table := by
  unfold State.offerExpiry
  split <;> rfl

theorem TableSound.takeExpiryClaim (h : s.TableSound) : s.takeExpiryClaim.TableSound := by
  unfold State.takeExpiryClaim
  split
  next i _ _ =>
    exact ((h.of_table rfl : (s.setPort (s.port.served .expiry)).TableSound).expiryEffect i).of_table (offerExpiry_table _)
  · exact h

end State
end Sys2Proof.Machine

/-! # The soft restart

What a band's grant and release, a lane's restart and the soft restart of the part leave unchanged, and what they make of each
lane and each arbiter. -/

namespace Sys2Proof.Machine

/-! ## Work on the bands -/

/-- Nothing changes but lanes and arbiters, and of no lane its settings or its state. -/
structure BandWork (s t : State) : Prop where
  frame : t = { s with lanes := t.lanes, bands := t.bands }
  settings : ∀ m, (t.lane m).settings = (s.lane m).settings
  state : ∀ m, (t.lane m).state = (s.lane m).state

theorem BandWork.refl (s : State) : BandWork s s := ⟨rfl, fun _ => rfl, fun _ => rfl⟩

theorem BandWork.trans {s t u : State} (h₁ : BandWork s t) (h₂ : BandWork t u) : BandWork s u := by
  refine ⟨?_, fun m => (h₂.settings m).trans (h₁.settings m), fun m => (h₂.state m).trans (h₁.state m)⟩
  have := h₂.frame
  rw [h₁.frame] at this
  exact this

namespace State

theorem bandWork_setBand (s : State) (g : GroupId) (a : BandArbiter) : BandWork s (s.setBand g a) :=
  ⟨rfl, fun _ => rfl, fun _ => rfl⟩

theorem bandWork_modLane (s : State) (l : LaneId) (f : Lane → Lane) (settings : (f (s.lane l)).settings = (s.lane l).settings)
    (state : (f (s.lane l)).state = (s.lane l).state) : BandWork s (s.modLane l f) := by
  refine ⟨rfl, fun m => ?_, fun m => ?_⟩
  · rw [lane_modLane]
    split
    next h => rw [settings, h]
    · rfl
  · rw [lane_modLane]
    split
    next h => rw [state, h]
    · rfl

theorem bandWork_setFlight (s : State) (l : LaneId) (f : Flight) : BandWork s (s.setFlight l f) :=
  bandWork_modLane s l _ rfl rfl

theorem bandWork_sendTo (s : State) (l : LaneId) (h : HeadPos) (c : BitVec 8 → HeadCommand) : BandWork s (s.sendTo l h c) :=
  bandWork_modLane s l (fun x => x.setHead h (HeadUnit.send s.hallTime c (x.head h))) (by cases h <;> rfl) (by cases h <;> rfl)

theorem bandWork_countHalf (s : State) (l : LaneId) (x : Half) : BandWork s (s.countHalf l x) := by
  unfold countHalf
  split
  · exact bandWork_modLane s l _ rfl rfl
  · exact BandWork.refl s

theorem bandWork_deliver (s : State) (l : LaneId) (r : CycleReport) : BandWork s (s.deliver l r) :=
  bandWork_modLane s l _ rfl rfl

theorem bandWork_startCycle (s : State) (l : LaneId) : BandWork s (s.startCycle l) := by
  unfold startCycle
  dsimp only
  split
  · exact ((bandWork_sendTo ..).trans (bandWork_sendTo ..)).trans (bandWork_setFlight ..)
  · exact (bandWork_sendTo ..).trans (bandWork_setFlight ..)
  · exact (bandWork_sendTo ..).trans (bandWork_setFlight ..)

theorem bandWork_roundStart (s : State) (l : LaneId) : BandWork s (s.roundStart l) := by
  unfold roundStart
  dsimp only
  split
  · exact (bandWork_setBand ..).trans (bandWork_startCycle ..)
  · split
    · exact ((bandWork_setBand ..).trans (bandWork_sendTo ..)).trans (bandWork_setFlight ..)
    · exact (((bandWork_setBand ..).trans (bandWork_countHalf ..)).trans (bandWork_deliver ..)).trans (bandWork_startCycle ..)

theorem bandWork_startProbe (s : State) (l : LaneId) : BandWork s (s.startProbe l) := by
  unfold startProbe sendProbe
  dsimp only
  split
  · split
    · exact BandWork.refl s
    · split
      · exact ((bandWork_sendTo ..).trans (bandWork_sendTo ..)).trans (bandWork_setFlight ..)
      · exact (bandWork_sendTo ..).trans (bandWork_setFlight ..)
      · exact (bandWork_sendTo ..).trans (bandWork_setFlight ..)
  · exact BandWork.refl s

theorem bandWork_grant (s : State) (g : GroupId) (l : LaneId) : BandWork s (s.grant g l) := by
  unfold grant
  dsimp only
  refine BandWork.trans (t := (s.setBand g { s.arbiter g with band := .held l, tenureCount := 0, lastHolder := some l }).modLane l
    fun x => { x with ask := false }) ((bandWork_setBand ..).trans (bandWork_modLane _ l _ rfl rfl)) ?_
  unfold beginWork
  split
  · exact bandWork_roundStart ..
  · exact bandWork_startProbe ..

theorem bandWork_takeGuardEnd (s : State) (g : GroupId) : BandWork s (s.takeGuardEnd g) := by
  unfold takeGuardEnd
  split
  · exact bandWork_grant ..
  · exact bandWork_setBand ..

theorem bandWork_releaseIfHeld (s : State) (l : LaneId) : BandWork s (s.releaseIfHeld l) := by
  unfold releaseIfHeld release
  dsimp only
  split
  · split
    · exact (bandWork_setBand ..).trans (bandWork_takeGuardEnd ..)
    · exact bandWork_setBand ..
  · exact BandWork.refl s

theorem bandWork_sweeperLeaves (s : State) (l : LaneId) : BandWork s (s.sweeperLeaves l) :=
  (bandWork_modLane s l _ rfl rfl).trans (bandWork_releaseIfHeld ..)

end State

/-! ## What a restart may change -/

/-- Nothing changes but what a lane's leaving and starting change: lanes, arbiters, the judgement unit without what is on its way
to it, and its claim at the table port. -/
def LeavingOnly (s t : State) : Prop :=
  t = { s with lanes := t.lanes, bands := t.bands, judge := { t.judge with inbox := s.judge.inbox },
               port := { s.port with judge := t.port.judge } }

theorem LeavingOnly.refl (s : State) : LeavingOnly s s := rfl

theorem LeavingOnly.trans {s t u : State} (h₁ : LeavingOnly s t) (h₂ : LeavingOnly t u) : LeavingOnly s u := by
  unfold LeavingOnly at *
  rw [h₁] at h₂
  exact h₂

theorem BandWork.leaving {s t : State} (h : BandWork s t) : LeavingOnly s t := by
  unfold LeavingOnly
  rw [h.frame]

namespace State

theorem leavingOnly_modLane (s : State) (l : LaneId) (f : Lane → Lane) : LeavingOnly s (s.modLane l f) := rfl

theorem leavingOnly_offerJudge (s : State) : LeavingOnly s s.offerJudge := by
  unfold offerJudge
  split
  · split <;> rfl
  · rfl

theorem leavingOnly_removeJudgements (s : State) (test : Judgement → Bool) : LeavingOnly s (s.removeJudgements test) := by
  unfold removeJudgements
  refine LeavingOnly.trans ?_ (leavingOnly_offerJudge _)
  rfl

theorem leavingOnly_leaveService (s : State) (l : LaneId) : LeavingOnly s (s.leaveService l) :=
  (bandWork_sweeperLeaves s l).leaving.trans
    ((leavingOnly_modLane (s.sweeperLeaves l) l _).trans (leavingOnly_removeJudgements ..))

theorem leavingOnly_restartLane (s : State) (l : LaneId) : LeavingOnly s (s.restartLane l) := by
  unfold restartLane
  split
  · exact leavingOnly_modLane ..
  · exact (leavingOnly_leaveService s l).trans (leavingOnly_modLane ..)

@[simp] theorem offerJudge_lane (s : State) (m : LaneId) : s.offerJudge.lane m = s.lane m := by
  unfold offerJudge
  split
  · split <;> rfl
  · rfl

@[simp] theorem offerJudge_judge (s : State) : s.offerJudge.judge = s.judge := by
  unfold offerJudge
  split
  · split <;> rfl
  · rfl

@[simp] theorem removeJudgements_lane (s : State) (test : Judgement → Bool) (m : LaneId) :
    (s.removeJudgements test).lane m = s.lane m := by
  unfold removeJudgements
  rw [offerJudge_lane]
  rfl

/-- A lane's restart leaves the settings of every lane and disables none. -/
theorem restartLane_settings_state (s : State) (l m : LaneId) :
    ((s.restartLane l).lane m).settings = (s.lane m).settings
      ∧ ((s.lane m).state ≠ .disabled → ((s.restartLane l).lane m).state ≠ .disabled) := by
  have started : ∀ u : State, ((u.startLane l).lane m).settings = (u.lane m).settings
      ∧ ((u.lane m).state ≠ .disabled → ((u.startLane l).lane m).state ≠ .disabled) := by
    intro u
    unfold startLane
    rw [lane_modLane]
    split
    next h => simp [h]
    · exact ⟨rfl, id⟩
  have left : ((s.leaveService l).lane m).settings = (s.lane m).settings
      ∧ ((s.leaveService l).lane m).state = (s.lane m).state := by
    unfold leaveService judgementsLeave
    have work := bandWork_sweeperLeaves s l
    dsimp only
    rw [removeJudgements_lane, lane_modLane]
    split
    next h => simp [h, work.settings, work.state]
    · exact ⟨work.settings m, work.state m⟩
  unfold restartLane
  split
  · exact started s
  · obtain ⟨settings, keeps⟩ := started (s.leaveService l)
    exact ⟨settings.trans left.1, fun h => keeps (by rwa [left.2])⟩

end State

/-! ## The desk's request carried out -/

/-- Nothing changes but what a desk's request, carried out as a soft restart comes, may change: the standing records, the lanes and
arbiters, the judgement unit without what is on its way to it, its claim, the records of the log but not their numbers, and the
desk bus port, which keeps its address and its count and does not become idle. No lane's settings change and none is disabled. -/
structure Carried (s t : State) : Prop where
  frame : t = { s with standing := t.standing, lanes := t.lanes, bands := t.bands
                       judge := { t.judge with inbox := s.judge.inbox }, port := { s.port with judge := t.port.judge }
                       log := { s.log with records := t.log.records }, desk := t.desk }
  settings : ∀ m, (t.lane m).settings = (s.lane m).settings
  enabled : ∀ m, (s.lane m).state ≠ .disabled → (t.lane m).state ≠ .disabled
  numbers : t.log.records.map AlarmRecord.number = s.log.records.map AlarmRecord.number
  address : t.desk.address = s.desk.address
  abandoned : t.desk.abandoned = s.desk.abandoned
  busy : s.desk.state ≠ .idle → t.desk.state ≠ .idle

theorem Carried.refl (s : State) : Carried s s := ⟨rfl, fun _ => rfl, fun _ => id, rfl, rfl, rfl, id⟩

theorem Carried.trans {s t u : State} (h₁ : Carried s t) (h₂ : Carried t u) : Carried s u := by
  refine ⟨?_, fun m => (h₂.settings m).trans (h₁.settings m), fun m h => h₂.enabled m (h₁.enabled m h),
    h₂.numbers.trans h₁.numbers, h₂.address.trans h₁.address, h₂.abandoned.trans h₁.abandoned, fun h => h₂.busy (h₁.busy h)⟩
  have := h₂.frame
  rw [h₁.frame] at this
  exact this

namespace State

theorem carried_replyOn (s : State) (k : Byte) (bs : List Byte) : Carried s (s.replyOn .desk k bs) :=
  ⟨rfl, fun _ => rfl, fun _ => id, rfl, rfl, rfl, fun _ h => by cases h⟩

theorem carried_setStanding (s : State) (d : DeskId) (r : Option Standing) : Carried s (s.setStanding d r) :=
  ⟨rfl, fun _ => rfl, fun _ => id, rfl, rfl, rfl, id⟩

theorem drive_frame (s : State) : s.drive = { s with lanes := s.drive.lanes } := by
  unfold drive
  exact foldl_lanes_keeps (motive := fun t => t = { s with lanes := t.lanes })
    (fun t l h => by
      show t.driveLane l = { s with lanes := (t.driveLane l).lanes }
      rw [h]
      rfl) allLanes rfl

@[simp] theorem drive_lane_settings (s : State) (m : LaneId) : (s.drive.lane m).settings = (s.lane m).settings := by
  rw [drive_lane s m]

@[simp] theorem drive_lane_state (s : State) (m : LaneId) : (s.drive.lane m).state = (s.lane m).state := by
  rw [drive_lane s m]

theorem carried_drive (s : State) : Carried s s.drive := by
  have frame := drive_frame s
  refine ⟨?_, fun m => by simp, fun m h => by simpa using h, ?_, ?_, ?_, ?_⟩
  all_goals rw [frame]
  exact id

theorem carried_ackLaneRecords (s : State) (l : LaneId) (src : Source) : Carried s (s.ackLaneRecords l src) := by
  refine ⟨rfl, fun _ => rfl, fun _ => id, ?_, rfl, rfl, id⟩
  unfold ackLaneRecords setRecords
  rw [List.map_map]
  refine List.map_congr_left fun r _ => ?_
  show AlarmRecord.number (if _ then _ else _) = _
  split <;> rfl

theorem carried_restartLane (s : State) (l : LaneId) : Carried s (s.restartLane l) := by
  have only := leavingOnly_restartLane s l
  unfold LeavingOnly at only
  refine ⟨?_, fun m => (restartLane_settings_state s l m).1, fun m => (restartLane_settings_state s l m).2, ?_, ?_, ?_, ?_⟩
  all_goals rw [only]
  exact id

theorem carried_serveStanding (s : State) : Carried s s.serveStanding := by
  refine serve_keeps .desk (Carried.refl s) fun src kind r t _ answer => ?_
  split at answer
  next d i _ =>
    have kept : Carried s (s.standingRequest d i).1 := by
      unfold standingRequest
      dsimp only
      split
      · exact Carried.refl s
      · split
        · exact carried_setStanding ..
        · exact Carried.refl s
    generalize s.standingRequest d i = result at answer kept
    cases answer
    exact kept.trans (carried_replyOn ..)
  · cases answer

theorem carried_serveEndStanding (s : State) : Carried s s.serveEndStanding := by
  refine serve_keeps .desk (Carried.refl s) fun src kind r t _ answer => ?_
  split at answer
  · cases answer
    exact (carried_setStanding ..).trans (carried_replyOn ..)
  · cases answer

theorem carried_laneRequest {s : State} {src : Source} {kind : Byte} {lane : Nat} {act : LaneId → State × List Byte}
    (acts : ∀ l, Carried s (act l).1) : Carried s (s.laneRequest .desk src kind lane act) :=
  laneRequest_keeps (Carried.refl s) acts (fun _ _ h => h.trans (carried_replyOn ..)) fun _ h => h.trans (carried_drive _)

theorem carried_serveAckLane (s : State) : Carried s (s.serveAckLane .desk) := by
  refine serve_keeps .desk (Carried.refl s) fun src kind r t _ answer => ?_
  split at answer
  · cases answer
    exact carried_laneRequest fun l => carried_ackLaneRecords ..
  · cases answer

theorem carried_serveRestartLane (s : State) : Carried s (s.serveRestartLane .desk) := by
  refine serve_keeps .desk (Carried.refl s) fun src kind r t _ answer => ?_
  split at answer
  · cases answer
    exact carried_laneRequest fun l => carried_restartLane ..
  · cases answer

theorem carried_carryOutDesk (s : State) : Carried s s.carryOutDesk := by
  unfold carryOutDesk
  exact (((carried_serveStanding s).trans (carried_serveEndStanding _)).trans (carried_serveAckLane _)).trans
    (carried_serveRestartLane _)

theorem serve_of_not_taken {s : State} {p : PortId} (h : ∀ src k r, s.workOf p ≠ .taken src k r)
    (f : Source → Byte → Request → Option State) : s.serve p f = s := by
  unfold serve
  split
  next src k r taken => exact absurd taken (h src k r)
  all_goals rfl

theorem carryOutDesk_of_not_taken {s : State} (h : ∀ src k r, s.desk.work ≠ .taken src k r) : s.carryOutDesk = s := by
  unfold carryOutDesk serveStanding serveEndStanding serveAckLane serveRestartLane
  simp only [serve_of_not_taken (p := .desk) h]

/-! ## Every lane changed alike -/

/-- The state with every lane changed by `f`. -/
@[irreducible] def modLanes (s : State) (f : Lane → Lane) : State := allLanes.foldl (fun s l => s.modLane l f) s

theorem modLanes_frame (s : State) (f : Lane → Lane) : s.modLanes f = { s with lanes := (s.modLanes f).lanes } := by
  unfold modLanes
  exact foldl_lanes_keeps (motive := fun t => t = { s with lanes := t.lanes })
    (fun t l h => by
      show t.modLane l f = { s with lanes := (t.modLane l f).lanes }
      rw [h]
      rfl) allLanes rfl

theorem lane_foldl_modLane (f : Lane → Lane) {ls : List LaneId} (distinct : ls.Nodup) (s : State) (m : LaneId) :
    (ls.foldl (fun s l => s.modLane l f) s).lane m = if m ∈ ls then f (s.lane m) else s.lane m := by
  induction ls generalizing s with
  | nil => simp
  | cons l ls ih =>
    obtain ⟨fresh, distinct⟩ := List.nodup_cons.1 distinct
    rw [List.foldl_cons, ih distinct, lane_modLane]
    by_cases same : m = l
    · subst same
      simp [fresh]
    · simp [same]

theorem mem_allLanes (l : LaneId) : l ∈ allLanes := by
  revert l
  decide

theorem allLanes_nodup : allLanes.Nodup := by decide

@[simp] theorem lane_modLanes (s : State) (f : Lane → Lane) (m : LaneId) : (s.modLanes f).lane m = f (s.lane m) := by
  unfold modLanes
  rw [lane_foldl_modLane f allLanes_nodup, if_pos (mem_allLanes m)]

/-- Driving the outputs sets every sounder line to what its lane shows. -/
theorem drive_sounder (s : State) (m : LaneId) : (s.drive.lane m).sounder = s.sounds m := by
  have one : ∀ (t : State) (l k : LaneId), (t.driveLane l).sounds k = t.sounds k := by
    intro t l k
    have state : ((t.driveLane l).lane k).state = (t.lane k).state := by rw [driveLane_lane t l k]
    unfold sounds
    rw [state]
    rfl
  have fold : ∀ (ls : List LaneId) (t : State), ls.Nodup →
      ((ls.foldl driveLane t).lane m).sounder = if m ∈ ls then t.sounds m else (t.lane m).sounder := by
    intro ls
    induction ls with
    | nil => simp
    | cons l ls ih =>
      intro t distinct
      obtain ⟨fresh, distinct⟩ := List.nodup_cons.1 distinct
      rw [List.foldl_cons, ih _ distinct, one]
      by_cases same : m = l
      · subst same
        simp [fresh, driveLane]
      · simp [same, driveLane]
  unfold drive
  rw [fold allLanes s allLanes_nodup, if_pos (mem_allLanes m)]

/-! ## One lane's restart while no lane asks -/

theorem chosen_of_no_asks {s : State} (calm : ∀ m, (s.lane m).ask = false) (g : GroupId) : s.chosen g = none := by
  simp [chosen, asks, asksUrgently, calm]

/-- An arbiter whose band has been released while no lane asked. -/
def releasedArbiter (s : State) (a : BandArbiter) : BandArbiter :=
  { a with band := if s.hall.guardGap = 0 then .free else .guarding, guardEnd := s.hallTime + s.hall.guardGap }

theorem release_of_no_asks {s : State} (calm : ∀ m, (s.lane m).ask = false) (g : GroupId) :
    s.release g = s.setBand g (s.releasedArbiter (s.arbiter g)) := by
  unfold release releasedArbiter
  dsimp only
  split
  next gap =>
    have calm' : ∀ m, ((s.setBand g { s.arbiter g with
        band := .guarding, guardEnd := s.hallTime + s.hall.guardGap }).lane m).ask = false := calm
    unfold takeGuardEnd
    rw [chosen_of_no_asks calm']
    dsimp only
    rw [arbiter_setBand, if_pos rfl]
    unfold setBand
    simp
  · rfl

end State

/-- A lane whose sweeper has left service (04 R83 steps 1 to 4). -/
def Lane.swept (x : Lane) : Lane :=
  { x.abortAll with inner := x.abortAll.inner.leave, outer := x.abortAll.outer.leave, flight := .nothing, buffer := none,
                    ask := false, probes := [], reports := [], passages := [], verdicts := [], results := [] }

/-- A lane that has gone through RESTART LANE at a time, with a number of exits dropped. -/
def Lane.restarted (now : Time) (dropped : Nat) (x : Lane) : Lane :=
  { x.swept with
      state := .starting, toJudge := [], awaited := []
      inner := x.swept.inner.ident now, outer := x.swept.outer.ident now
      counts := { x.swept.counts with dropped := x.swept.counts.dropped + BitVec.ofNat 32 dropped } }

namespace State

theorem sweeperLeaves_of_no_asks {s : State} (calm : ∀ m, (s.lane m).ask = false) (l : LaneId) :
    s.sweeperLeaves l = if s.holds l then
        (s.modLane l Lane.swept).setBand (s.groupOf l) (s.releasedArbiter (s.arbiter (s.groupOf l)))
      else s.modLane l Lane.swept := by
  have calm' : ∀ m, ((s.modLane l Lane.swept).lane m).ask = false := by
    intro m
    rw [lane_modLane]
    split
    · rfl
    · exact calm m
  have group : (s.modLane l Lane.swept).groupOf l = s.groupOf l := by
    unfold groupOf
    rw [lane_modLane_same]
    rfl
  have holder : (s.modLane l Lane.swept).holds l = s.holds l := by
    unfold holds
    rw [group, arbiter_modLane]
  show (s.modLane l Lane.swept).releaseIfHeld l = _
  unfold releaseIfHeld
  rw [holder, release_of_no_asks calm', group, arbiter_modLane]
  rfl

/-- The exits without a verdict that a lane drops as it leaves service: its judgements that are not DONE, and its leaving passages
that have not been taken (04 R83, log entry 6). -/
def exitsDropped (s : State) (l : LaneId) : Nat :=
  (s.judge.entries.countP fun j => j.owner == l && j.stage != .done) + s.passagesOnTheWay l

/-- Lane `l` as RESTART LANE leaves it. -/
def restartedLane (s : State) (l : LaneId) : Lane := (s.lane l).restarted s.hallTime (s.exitsDropped l)

theorem restartLane_of_enabled {s : State} {l : LaneId} (enabled : (s.lane l).state ≠ .disabled) :
    s.restartLane l = (s.leaveService l).startLane l := by
  unfold restartLane
  rw [if_neg (by simpa using enabled)]

section
variable {s : State} (calm : ∀ m, (s.lane m).ask = false) {l : LaneId} (enabled : (s.lane l).state ≠ .disabled)
include calm

theorem lane_sweeperLeaves (m : LaneId) : (s.sweeperLeaves l).lane m = if m = l then (s.lane l).swept else s.lane m := by
  rw [sweeperLeaves_of_no_asks calm]
  split
  · exact lane_modLane s l m _
  · exact lane_modLane s l m _

theorem exitsDropped_sweeperLeaves : (s.sweeperLeaves l).exitsDropped l = s.exitsDropped l := by
  have judge : (s.sweeperLeaves l).judge = s.judge := by rw [(bandWork_sweeperLeaves s l).frame]
  unfold exitsDropped passagesOnTheWay
  rw [judge, lane_sweeperLeaves calm, if_pos rfl]
  rfl

/-- A lane's leaving of service touches no other lane while no lane asks. -/
theorem lane_leaveService (m : LaneId) :
    (s.leaveService l).lane m = if m = l then
        { (s.lane l).swept with
            toJudge := [], awaited := []
            counts := { (s.lane l).swept.counts with
              dropped := (s.lane l).swept.counts.dropped + BitVec.ofNat 32 (s.exitsDropped l) } }
      else s.lane m := by
  rw [← exitsDropped_sweeperLeaves calm]
  unfold leaveService judgementsLeave
  dsimp only
  rw [removeJudgements_lane, lane_modLane, lane_sweeperLeaves calm, lane_sweeperLeaves calm, if_pos rfl]
  split
  · rfl
  · rfl

include enabled

/-- A lane's restart touches no other lane while no lane asks. -/
theorem lane_restartLane (m : LaneId) :
    (s.restartLane l).lane m = if m = l then s.restartedLane l else s.lane m := by
  have time : (s.leaveService l).hallTime = s.hallTime := by rw [leavingOnly_leaveService s l]
  rw [restartLane_of_enabled enabled]
  unfold startLane
  rw [lane_modLane, time, lane_leaveService calm, if_pos rfl, lane_leaveService calm]
  split
  · rfl
  · rfl

/-- A lane's restart releases the band that it holds, and leaves every other arbiter. -/
theorem arbiter_restartLane (g : GroupId) :
    (s.restartLane l).arbiter g =
      if s.holds l = true ∧ g = s.groupOf l then s.releasedArbiter (s.arbiter g) else s.arbiter g := by
  have bands : (s.restartLane l).arbiter g = (s.sweeperLeaves l).arbiter g := by
    rw [restartLane_of_enabled enabled]
    show (removeJudgements _ _).arbiter g = _
    unfold removeJudgements offerJudge
    dsimp only
    split
    · split <;> rfl
    · rfl
  rw [bands, sweeperLeaves_of_no_asks calm]
  split
  next held =>
    rw [arbiter_setBand, arbiter_modLane]
    split
    next same => rw [if_pos ⟨held, same⟩, same]
    next other => rw [if_neg fun h => other h.2]
  next free => rw [if_neg fun h => free h.1, arbiter_modLane]

omit calm in
/-- A lane's restart takes its judgements, and no other lane's. -/
theorem entries_restartLane : (s.restartLane l).judge.entries = s.judge.entries.filter fun j => !(j.owner == l) := by
  have judge : (s.sweeperLeaves l).judge = s.judge := by rw [(bandWork_sweeperLeaves s l).frame]
  rw [restartLane_of_enabled enabled]
  unfold startLane leaveService judgementsLeave removeJudgements
  simp [judge]

/-- A lane's restart leaves what every other lane's restart will come to. -/
theorem restartedLane_restartLane {m : LaneId} (other : m ≠ l) : (s.restartLane l).restartedLane m = s.restartedLane m := by
  have lane := lane_restartLane calm enabled m
  have time : (s.restartLane l).hallTime = s.hallTime := by rw [leavingOnly_restartLane s l]
  rw [if_neg other] at lane
  unfold restartedLane exitsDropped passagesOnTheWay
  rw [lane, time, entries_restartLane enabled, List.countP_filter]
  congr 3
  funext j
  by_cases own : j.owner = m
  · simp [own, other]
  · simp [own]

end

/-! ## The restart of every lane -/

/-- One lane's part of the restart: a lane that is not DISABLED goes through RESTART LANE. -/
def restartIfEnabled (s : State) (l : LaneId) : State := if (s.lane l).state == .disabled then s else s.restartLane l

theorem leavingOnly_restartIfEnabled (s : State) (l : LaneId) : LeavingOnly s (s.restartIfEnabled l) := by
  unfold restartIfEnabled
  split
  · exact LeavingOnly.refl s
  · exact leavingOnly_restartLane s l

theorem restartLanes_eq (s : State) :
    s.restartLanes = allLanes.foldl restartIfEnabled (s.modLanes fun x => { x with ask := false }) := by
  unfold modLanes
  rfl

theorem restartIfEnabled_of_disabled {s : State} {l : LaneId} (h : (s.lane l).state = .disabled) : s.restartIfEnabled l = s := by
  simp [restartIfEnabled, h]

theorem restartIfEnabled_of_enabled {s : State} {l : LaneId} (h : (s.lane l).state ≠ .disabled) :
    s.restartIfEnabled l = s.restartLane l := by
  simp [restartIfEnabled, h]

theorem restartIfEnabled_no_asks {s : State} (calm : ∀ m, (s.lane m).ask = false) (l m : LaneId) :
    ((s.restartIfEnabled l).lane m).ask = false := by
  by_cases enabled : (s.lane l).state = .disabled
  · rw [restartIfEnabled_of_disabled enabled]
    exact calm m
  · rw [restartIfEnabled_of_enabled enabled, lane_restartLane calm enabled]
    split
    · rfl
    · exact calm m

/-- Each lane is as its own restart leaves it, whatever the order of the lanes. -/
theorem lane_foldl_restart {ls : List LaneId} (distinct : ls.Nodup) {s : State} (calm : ∀ m, (s.lane m).ask = false) (m : LaneId) :
    (ls.foldl restartIfEnabled s).lane m =
      if m ∈ ls ∧ (s.lane m).state ≠ .disabled then s.restartedLane m else s.lane m := by
  induction ls generalizing s with
  | nil => simp
  | cons l ls ih =>
    obtain ⟨fresh, distinct⟩ := List.nodup_cons.1 distinct
    rw [List.foldl_cons, ih distinct (restartIfEnabled_no_asks calm l)]
    by_cases enabled : (s.lane l).state = .disabled
    · rw [restartIfEnabled_of_disabled enabled]
      by_cases same : m = l
      · subst same
        simp [enabled]
      · simp [same]
    · rw [restartIfEnabled_of_enabled enabled, lane_restartLane calm enabled]
      by_cases same : m = l
      · subst same
        simp [fresh, enabled]
      · rw [restartedLane_restartLane calm enabled same]
        simp [same]

/-- Every holder is a lane of its group that is not DISABLED. -/
def holdersEnabled (s : State) : Prop :=
  ∀ g l, (s.arbiter g).band = .held l → s.groupOf l = g ∧ (s.lane l).state ≠ .disabled

theorem holds_iff {s : State} (sound : s.holdersEnabled) (g : GroupId) (l : LaneId) :
    (s.holds l = true ∧ g = s.groupOf l) ↔ (s.arbiter g).band = .held l := by
  unfold holds
  rw [beq_iff_eq]
  constructor
  · rintro ⟨held, rfl⟩
    exact held
  · intro held
    obtain ⟨group, -⟩ := sound g l held
    rw [group]
    exact ⟨held, rfl⟩

theorem releasedArbiter_not_held (s : State) (a : BandArbiter) (l : LaneId) : (s.releasedArbiter a).band ≠ .held l := by
  unfold releasedArbiter
  dsimp only
  split <;> simp

theorem arbiter_restartIfEnabled {s : State} (calm : ∀ m, (s.lane m).ask = false) (sound : s.holdersEnabled) (l : LaneId)
    (g : GroupId) : (s.restartIfEnabled l).arbiter g =
      if (s.arbiter g).band = .held l then s.releasedArbiter (s.arbiter g) else s.arbiter g := by
  by_cases enabled : (s.lane l).state = .disabled
  · rw [restartIfEnabled_of_disabled enabled, if_neg fun held => (sound g l held).2 enabled]
  · rw [restartIfEnabled_of_enabled enabled, arbiter_restartLane calm enabled]
    simp only [holds_iff sound]

theorem holdersEnabled_restartIfEnabled {s : State} (calm : ∀ m, (s.lane m).ask = false) (sound : s.holdersEnabled) (l : LaneId) :
    (s.restartIfEnabled l).holdersEnabled := by
  intro g m held
  rw [arbiter_restartIfEnabled calm sound] at held
  split at held
  · exact absurd held (releasedArbiter_not_held _ _ _)
  · obtain ⟨group, enabled⟩ := sound g m held
    unfold restartIfEnabled groupOf at *
    split
    · exact ⟨group, enabled⟩
    · obtain ⟨settings, keeps⟩ := restartLane_settings_state s l m
      rw [settings]
      exact ⟨group, keeps enabled⟩

/-- The restart of the lanes releases each band whose holder is among them, once, and leaves every other arbiter. -/
theorem arbiter_foldl_restart (ls : List LaneId) {s : State} (calm : ∀ m, (s.lane m).ask = false) (sound : s.holdersEnabled)
    (g : GroupId) :
    ((∀ l ∈ ls, (s.arbiter g).band ≠ .held l) → (ls.foldl restartIfEnabled s).arbiter g = s.arbiter g)
      ∧ ∀ l ∈ ls, (s.arbiter g).band = .held l →
          (ls.foldl restartIfEnabled s).arbiter g = s.releasedArbiter (s.arbiter g) := by
  induction ls generalizing s with
  | nil => simp
  | cons k ls ih =>
    obtain ⟨free, held⟩ := ih (restartIfEnabled_no_asks calm k) (holdersEnabled_restartIfEnabled calm sound k)
    have released : ∀ a, (s.restartIfEnabled k).releasedArbiter a = s.releasedArbiter a := by
      intro a
      unfold releasedArbiter
      rw [leavingOnly_restartIfEnabled s k]
    rw [arbiter_restartIfEnabled calm sound] at free held
    simp only [List.foldl_cons, released] at free held ⊢
    by_cases own : (s.arbiter g).band = .held k
    · rw [if_pos own] at free
      have after := free fun l _ => releasedArbiter_not_held _ _ _
      refine ⟨fun none => absurd own (none k List.mem_cons_self), fun _ _ _ => after⟩
    · rw [if_neg own] at free held
      refine ⟨fun none => free fun l mem => none l (List.mem_cons_of_mem _ mem), fun l mem holder => ?_⟩
      rcases List.mem_cons.1 mem with rfl | mem
      · exact absurd holder own
      · exact held l mem holder

/-! ## The soft restart of the part -/

/-- The state in which the lanes begin their restarts: the desk's request carried out, every standing ended, every ask withdrawn. -/
def beforeRestarts (s : State) : State :=
  ({ s.carryOutDesk with standing := Vector.replicate 15 none } : State).modLanes fun x => { x with ask := false }

theorem beforeRestarts_no_asks (s : State) (m : LaneId) : (s.beforeRestarts.lane m).ask = false := by
  unfold beforeRestarts
  rw [lane_modLanes]

theorem beforeRestarts_frame (s : State) :
    s.beforeRestarts = { s.carryOutDesk with standing := Vector.replicate 15 none, lanes := s.beforeRestarts.lanes } :=
  modLanes_frame ..

theorem softRestart_eq (s : State) :
    s.softRestart = (allLanes.foldl restartIfEnabled s.beforeRestarts).restartJudgement.silenceRecords.restartDesk := by
  unfold beforeRestarts
  rw [← restartLanes_eq]
  rfl

theorem leavingOnly_restarts (s : State) : LeavingOnly s.beforeRestarts (allLanes.foldl restartIfEnabled s.beforeRestarts) :=
  foldl_lanes_keeps (fun t l h => h.trans (leavingOnly_restartIfEnabled t l)) allLanes (LeavingOnly.refl _)

theorem restartJudgement_frame (s : State) : s.restartJudgement =
    { s with
        lanes := (s.modLanes fun x => { x with awaited := [] }).lanes
        judge := { s.judge with entries := [], asking := [], answer := s.judge.answer.map fun (a : Item × Bool) => (a.1, false) }
        port := { s.port with judge := none } } := by
  have only := s.modLanes_frame fun x => { x with awaited := [] }
  have unfolded : s.restartJudgement =
      let t := s.modLanes fun x => { x with awaited := [] }
      { t with
          judge := { t.judge with
            entries := [], asking := [], answer := t.judge.answer.map fun (a : Item × Bool) => (a.1, false) }
          port := { t.port with judge := none } } := by
    unfold modLanes
    rfl
  rw [unfolded]
  generalize s.modLanes _ = t at only ⊢
  rw [only]

theorem lane_restartJudgement (s : State) (m : LaneId) :
    s.restartJudgement.lane m = { s.lane m with awaited := [] } := by
  rw [restartJudgement_frame]
  exact lane_modLanes s (fun x => { x with awaited := [] }) m

/-- The soft restart, but for the lanes and the arbiters: every standing ends, the judgement unit is empty and discards the answer
of a taken claim, the sounding ends of the log are brought forward, and the desk bus port stops with its claim orphaned. -/
theorem softRestart_frame (s : State) : ∃ answer : Option (Item × Bool), (∀ i live, answer = some (i, live) → live = false)
    ∧ s.softRestart = { s.carryOutDesk with
        standing := Vector.replicate 15 none, lanes := s.softRestart.lanes, bands := s.softRestart.bands
        judge := { entries := [], asking := [], answer := answer, inbox := s.carryOutDesk.judge.inbox }
        port := { s.carryOutDesk.port with
          judge := none, deskOrphan := s.carryOutDesk.port.desk.isSome, deskDeferred := none }
        log := s.carryOutDesk.silenceRecords.log, desk := s.carryOutDesk.desk.softRestart } := by
  refine ⟨(allLanes.foldl restartIfEnabled s.beforeRestarts).judge.answer.map fun (a : Item × Bool) => (a.1, false), ?_, ?_⟩
  · intro i live h
    obtain ⟨a, -, pair⟩ := Option.map_eq_some_iff.1 h
    exact (Prod.mk.inj pair).2.symm
  · rw [softRestart_eq]
    have only := leavingOnly_restarts s
    generalize allLanes.foldl restartIfEnabled s.beforeRestarts = t at only ⊢
    unfold LeavingOnly at only
    rw [beforeRestarts_frame] at only
    rw [restartJudgement_frame, only]
    rfl

theorem restartedLane_awaited (s : State) (m : LaneId) :
    ({ s.restartedLane m with awaited := [] } : Lane) = s.restartedLane m := by
  unfold restartedLane
  generalize s.lane m = x
  rfl

theorem restartedLane_beforeRestarts (s : State) (m : LaneId) :
    s.beforeRestarts.restartedLane m = s.carryOutDesk.restartedLane m := by
  have before : s.beforeRestarts.lane m = { s.carryOutDesk.lane m with ask := false } := lane_modLanes ..
  unfold restartedLane exitsDropped passagesOnTheWay
  rw [before, beforeRestarts_frame]
  rfl

/-- Each lane after the soft restart: one that is not DISABLED has gone through RESTART LANE, and a DISABLED one has lost its ask
and its awaited probes. -/
theorem lane_softRestart (s : State) (m : LaneId) : s.softRestart.lane m =
    if (s.carryOutDesk.lane m).state = .disabled then { s.carryOutDesk.lane m with ask := false, awaited := [] }
    else s.carryOutDesk.restartedLane m := by
  have before : s.beforeRestarts.lane m = { s.carryOutDesk.lane m with ask := false } := lane_modLanes ..
  have restarts := lane_foldl_restart allLanes_nodup (beforeRestarts_no_asks s) m
  have kept : ∀ t : State, t.silenceRecords.restartDesk.lane m = t.lane m := fun _ => rfl
  rw [softRestart_eq, kept, lane_restartJudgement, restarts, restartedLane_beforeRestarts, before]
  by_cases disabled : (s.carryOutDesk.lane m).state = .disabled
  · simp [disabled]
  · simp [disabled, mem_allLanes, restartedLane_awaited]

theorem arbiter_softRestart (s : State) (g : GroupId) :
    s.softRestart.arbiter g = (allLanes.foldl restartIfEnabled s.beforeRestarts).arbiter g := by
  rw [softRestart_eq]
  have kept : ∀ t : State, t.silenceRecords.restartDesk.arbiter g = t.arbiter g := fun _ => rfl
  rw [kept, restartJudgement_frame]
  generalize allLanes.foldl restartIfEnabled s.beforeRestarts = t
  rfl

theorem softRestart_table (s : State) : s.softRestart.table = s.table := by
  obtain ⟨_, -, frame⟩ := s.softRestart_frame
  have carried := (carried_carryOutDesk s).frame
  generalize s.softRestart = t, s.carryOutDesk = c at frame carried ⊢
  rw [frame, carried]

end State
end Sys2Proof.Machine

/-! # Every step keeps the table sound -/

namespace Sys2Proof.Machine

namespace State

variable {s : State}

/-- A command of the host that is worked keeps the table where its work does. -/
theorem serveLink_table {s : State} {f : Byte → Request → Option State} (h : ∀ k r t, f k r = some t → t.table = s.table) :
    (s.serveLink f).table = s.table :=
  serve_keeps (motive := fun t => t.table = s.table) .link rfl fun _ k r t _ answer => h k r t answer

end State

/-- A command answers a next state with a sound table, from a state with one. -/
def KeepsTable (c : Instr) (s : State) : Prop := ∃ t, exec c s = .next t ∧ t.TableSound

open State

theorem keepsTable_of_table {c : Instr} {s t : State} (h : s.TableSound) (answers : exec c s = .next t)
    (same : t.table = s.table) : KeepsTable c s := ⟨t, answers, h.of_table same⟩

/-! ## The commands of the host -/

theorem keepsTable_setHall {s : State} (h : s.TableSound) : KeepsTable .setHall s := by
  refine keepsTable_of_table h rfl (serveLink_table fun k r t answer => ?_)
  split at answer
  · split at answer <;> cases answer <;> rfl
  · cases answer

theorem keepsTable_setWindow {s : State} (h : s.TableSound) : KeepsTable .setWindow s := by
  refine keepsTable_of_table h rfl (serveLink_table fun k r t answer => ?_)
  split at answer
  · split at answer <;> cases answer <;> rfl
  · cases answer

theorem keepsTable_setRights {s : State} (h : s.TableSound) : KeepsTable .setRights s := by
  refine keepsTable_of_table h rfl (serveLink_table fun k r t answer => ?_)
  split at answer
  · split at answer <;> cases answer <;> rfl
  · cases answer

theorem keepsTable_setLane {s : State} (h : s.TableSound) : KeepsTable .setLane s := by
  refine keepsTable_of_table h rfl (serveLink_table fun k r t answer => ?_)
  split at answer
  · cases answer
    refine withLane_table fun l => ?_
    split
    · rfl
    · split <;> rfl
  · cases answer

theorem keepsTable_enableLane {s : State} (h : s.TableSound) : KeepsTable .enableLane s := by
  refine keepsTable_of_table h rfl (serveLink_table fun k r t answer => ?_)
  split at answer
  · cases answer
    refine withLane_table fun l => ?_
    split
    · rw [drive_table]; rfl
    · rfl
  · cases answer

theorem keepsTable_disableLane {s : State} (h : s.TableSound) : KeepsTable .disableLane s := by
  refine keepsTable_of_table h rfl (serveLink_table fun k r t answer => ?_)
  split at answer
  · cases answer
    refine withLane_table fun l => ?_
    rw [drive_table]
    exact (judgingOnly_disableLane s l).table
  · cases answer

theorem keepsTable_readLane {s : State} (h : s.TableSound) : KeepsTable .readLane s := by
  refine keepsTable_of_table h rfl (serveLink_table fun k r t answer => ?_)
  split at answer
  · cases answer
    exact withLane_table fun l => rfl
  · cases answer

theorem keepsTable_readStatus {s : State} (h : s.TableSound) : KeepsTable .readStatus s := by
  refine keepsTable_of_table h rfl (serveLink_table fun k r t answer => ?_)
  split at answer <;> cases answer
  rfl

/-- CLEAR COUNTS zeroes the three counters of the table and leaves its entries and pending counts. -/
theorem keepsTable_clearCounts {s : State} (h : s.TableSound) : KeepsTable .clearCounts s := by
  have lanes : ∀ ls : List LaneId, (ls.foldl (fun s l => s.modLane l clearLane) s).table = s.table := fun ls =>
    foldl_lanes_keeps (f := fun s l => s.modLane l clearLane) (motive := fun t => t.table = s.table) (fun _ _ same => same) ls rfl
  refine ⟨_, rfl, serve_keeps (motive := TableSound) .link h fun src k r t _ answer => ?_⟩
  dsimp only at answer
  split at answer
  · cases answer
    refine h.of_same ?_ ?_
    · show (allLanes.foldl (fun s l => s.modLane l clearLane) s).table.entries = _
      rw [lanes]
    · show (allLanes.foldl (fun s l => s.modLane l clearLane) s).table.pendingCounts = _
      rw [lanes]
  · cases answer

theorem keepsTable_readAlarms {s : State} (h : s.TableSound) : KeepsTable .readAlarms s := by
  refine keepsTable_of_table h rfl (serveLink_table fun k r t answer => ?_)
  split at answer
  · split at answer <;> cases answer <;> rfl
  · cases answer

theorem keepsTable_ackAlarm {s : State} (h : s.TableSound) : KeepsTable .ackAlarm s := by
  refine keepsTable_of_table h rfl (serveLink_table fun k r t answer => ?_)
  split at answer
  · split at answer
    · cases answer
      rw [drive_table]
      rfl
    · cases answer
      rfl
  · cases answer

theorem keepsTable_clearLog {s : State} (h : s.TableSound) : KeepsTable .clearLog s := by
  refine keepsTable_of_table h rfl (serveLink_table fun k r t answer => ?_)
  split at answer <;> cases answer
  rfl

theorem keepsTable_readNotices {s : State} (h : s.TableSound) : KeepsTable .readNotices s := by
  refine keepsTable_of_table h rfl (serveLink_table fun k r t answer => ?_)
  split at answer <;> cases answer
  rfl

theorem keepsTable_restart {s : State} (h : s.TableSound) : KeepsTable .restart s := by
  refine keepsTable_of_table h rfl
    (serve_keeps (motive := fun t => t.table = s.table) .link rfl fun src k r t _ answer => ?_)
  split at answer
  · obtain rfl := Option.some.inj answer
    rw [drive_table, replyOn_table, softRestart_table]
  · cases answer

/-! ## The requests of both ports -/

theorem keepsTable_walk {s : State} (h : s.TableSound) : KeepsTable .walk s := by
  refine keepsTable_of_table h rfl
    (serve_keeps (motive := fun t => t.table = s.table) .link rfl fun src k r t _ answer => ?_)
  split at answer <;> cases answer
  rfl

theorem keepsTable_clearTable {s : State} (h : s.TableSound) : KeepsTable .clearTable s := by
  refine keepsTable_of_table h rfl
    (serve_keeps (motive := fun t => t.table = s.table) .link rfl fun src k r t _ answer => ?_)
  split at answer <;> cases answer
  rfl

theorem keepsTable_badRequest {s : State} (h : s.TableSound) (p : PortId) : KeepsTable (.badRequest p) s := by
  refine keepsTable_of_table h rfl ?_
  split
  · rw [replyOn_table]
  · refine serve_keeps (motive := fun t => t.table = s.table) p rfl fun src k r t _ answer => ?_
    split at answer <;> cases answer
    rw [replyOn_table]

/-! ## Head links, cycle reports and the judgement unit -/

theorem keepsTable_identReply {s : State} (h : s.TableSound) (l : LaneId) (hd : HeadPos) (m : List Byte) :
    KeepsTable (.identReply l hd m) s := by
  refine keepsTable_of_table h rfl ?_
  split
  · rw [drive_table, (lanesOnly_takeIdent ..).table]
  · rfl

theorem keepsTable_roundReport {s : State} (h : s.TableSound) (l : LaneId) (hd : HeadPos) (m : List Byte) :
    KeepsTable (.roundReport l hd m) s := by
  refine keepsTable_of_table h rfl ?_
  split
  · rw [(lanesOnly_takeRound ..).table]
  · rfl

theorem keepsTable_probeReport {s : State} (h : s.TableSound) (l : LaneId) (hd : HeadPos) (m : List Byte) :
    KeepsTable (.probeReport l hd m) s := by
  refine keepsTable_of_table h rfl ?_
  split
  · rw [(lanesOnly_takeProbe ..).table]
  · rfl

theorem keepsTable_headMessageDiscarded {s : State} (h : s.TableSound) (l : LaneId) (hd : HeadPos) (m : List Byte) :
    KeepsTable (.headMessageDiscarded l hd m) s := by
  refine keepsTable_of_table h rfl ?_
  split
  · rw [drive_table, (lanesOnly_discardMessage ..).table]
  · rfl

theorem keepsTable_roundTimeout {s : State} (h : s.TableSound) (l : LaneId) (hd : HeadPos) :
    KeepsTable (.roundTimeout l hd) s := by
  refine keepsTable_of_table h rfl ?_
  split
  · rw [drive_table, (lanesOnly_attemptFailed ..).table]
  · rfl

theorem keepsTable_cycleReport {s : State} (h : s.TableSound) (l : LaneId) : KeepsTable (.cycleReport l) s := by
  refine keepsTable_of_table h rfl ?_
  split
  · rw [(lanesOnly_takeReport ..).table, modLane_table]
  · rfl

theorem keepsTable_passage {s : State} (h : s.TableSound) (l : LaneId) : KeepsTable (.passage l) s := by
  refine keepsTable_of_table h rfl ?_
  split
  · rw [drive_table, (judgingOnly_takePassage ..).table, modLane_table]
  · rfl

theorem keepsTable_verdict {s : State} (h : s.TableSound) (l : LaneId) : KeepsTable (.verdict l) s := by
  refine keepsTable_of_table h rfl ?_
  split <;> rfl

theorem keepsTable_judgeAnswer {s : State} (h : s.TableSound) : KeepsTable .judgeAnswer s := by
  refine keepsTable_of_table h rfl ?_
  split
  · rw [drive_table, (judgingOnly_takeAnswer ..).table]
  · rfl

theorem keepsTable_changeNotice {s : State} (h : s.TableSound) : KeepsTable .changeNotice s := by
  refine keepsTable_of_table h rfl ?_
  split
  · rw [drive_table, (judgingOnly_takeNotice ..).table]
  · rfl

theorem keepsTable_graceEnd {s : State} (h : s.TableSound) (i : Item) : KeepsTable (.graceEnd i) s := by
  refine keepsTable_of_table h rfl ?_
  split
  · split
    · rw [drive_table, (judgingOnly_verify ..).table]
    · rfl
  · rfl

theorem keepsTable_passageRemovalReport {s : State} (h : s.TableSound) (l : LaneId) :
    KeepsTable (.passageRemovalReport l) s := by
  refine keepsTable_of_table h rfl ?_
  split
  · rw [drive_table, (judgingOnly_removeJudgements ..).table, modLane_table]
  · rfl

/-! ## Deadlines -/

theorem keepsTable_standingEnd {s : State} (h : s.TableSound) (d : DeskId) : KeepsTable (.standingEnd d) s := by
  refine keepsTable_of_table h rfl ?_
  split <;> rfl

theorem keepsTable_soundingEnd {s : State} (h : s.TableSound) (n : BitVec 16) : KeepsTable (.soundingEnd n) s := by
  refine keepsTable_of_table h rfl ?_
  split
  · rw [(lanesOnly_driveLane ..).table]
  · rfl

theorem keepsTable_guardEnd {s : State} (h : s.TableSound) (g : GroupId) : KeepsTable (.guardEnd g) s := by
  refine keepsTable_of_table h rfl ?_
  split
  · rw [(lanesOnly_takeGuardEnd ..).table]
  · rfl

/-! ## Every command -/

theorem exec_keepsTable (c : Instr) {s : State} (h : s.TableSound) : KeepsTable c s := by
  cases c with
  | powerOnReset a r => exact ⟨_, rfl, tableSound_of_empty rfl rfl⟩
  | restart => exact keepsTable_restart h
  | hold p => exact keepsTable_of_table h rfl (portsOnly_serveItems s p .hold).table
  | issue p => exact keepsTable_of_table h rfl (portsOnly_serveItems s p .issue).table
  | confirm p => exact keepsTable_of_table h rfl (portsOnly_serveItems s p .confirm).table
  | cancel p => exact keepsTable_of_table h rfl (portsOnly_serveItems s p .cancel).table
  | confirmBatch p => exact keepsTable_of_table h rfl (portsOnly_serveBatch s p .confirm).table
  | cancelBatch p => exact keepsTable_of_table h rfl (portsOnly_serveBatch s p .cancel).table
  | discharge p => exact keepsTable_of_table h rfl (portsOnly_serveItems s p .discharge).table
  | query p => exact keepsTable_of_table h rfl (portsOnly_serveItems s p .query).table
  | load => exact keepsTable_of_table h rfl (portsOnly_serveItems s .link .load).table
  | walk => exact keepsTable_walk h
  | clearTable => exact keepsTable_clearTable h
  | standing => exact keepsTable_of_table h rfl (serveStanding_table s)
  | endStanding => exact keepsTable_of_table h rfl (serveEndStanding_table s)
  | ackLane p => exact keepsTable_of_table h rfl (serveAckLane_table s p)
  | restartLane p => exact keepsTable_of_table h rfl (serveRestartLane_table s p)
  | setHall => exact keepsTable_setHall h
  | setWindow => exact keepsTable_setWindow h
  | setRights => exact keepsTable_setRights h
  | setLane => exact keepsTable_setLane h
  | enableLane => exact keepsTable_enableLane h
  | disableLane => exact keepsTable_disableLane h
  | readLane => exact keepsTable_readLane h
  | readStatus => exact keepsTable_readStatus h
  | clearCounts => exact keepsTable_clearCounts h
  | readAlarms => exact keepsTable_readAlarms h
  | ackAlarm => exact keepsTable_ackAlarm h
  | clearLog => exact keepsTable_clearLog h
  | readNotices => exact keepsTable_readNotices h
  | badRequest p => exact keepsTable_badRequest h p
  | holdClaim => exact ⟨_, rfl, h.takeItemClaim .hold⟩
  | issueClaim => exact ⟨_, rfl, (h.takeItemClaim .issue).of_table (drive_table _)⟩
  | confirmClaim => exact ⟨_, rfl, (h.takeItemClaim .confirm).of_table (drive_table _)⟩
  | cancelClaim => exact ⟨_, rfl, h.takeItemClaim .cancel⟩
  | confirmBatchClaim => exact ⟨_, rfl, h.takeBatchClaim .confirm⟩
  | cancelBatchClaim => exact ⟨_, rfl, h.takeBatchClaim .cancel⟩
  | dischargeClaim => exact ⟨_, rfl, h.takeItemClaim .discharge⟩
  | queryClaim => exact ⟨_, rfl, h.takeItemClaim .query⟩
  | loadClaim => exact ⟨_, rfl, h.takeItemClaim .load⟩
  | walkClaim => exact keepsTable_of_table h rfl (takeWalkClaim_table s)
  | clearTableClaim => exact ⟨_, rfl, h.takeClearTableClaim⟩
  | judge => exact ⟨_, rfl, h.takeJudgeClaim⟩
  | dueTimeReached => exact keepsTable_of_table h rfl (offerExpiry_table s)
  | expiryClaim => exact ⟨_, rfl, h.takeExpiryClaim⟩
  | standingEnd d => exact keepsTable_standingEnd h d
  | soundingEnd n => exact keepsTable_soundingEnd h n
  | identReply l hd m => exact keepsTable_identReply h l hd m
  | roundReport l hd m => exact keepsTable_roundReport h l hd m
  | probeReport l hd m => exact keepsTable_probeReport h l hd m
  | headMessageDiscarded l hd m => exact keepsTable_headMessageDiscarded h l hd m
  | roundTimeout l hd => exact keepsTable_roundTimeout h l hd
  | abort l hd => exact keepsTable_of_table h rfl (lanesOnly_sendAbort s l hd).table
  | guardEnd g => exact keepsTable_guardEnd h g
  | cycleReport l => exact keepsTable_cycleReport h l
  | passage l => exact keepsTable_passage h l
  | verdict l => exact keepsTable_verdict h l
  | judgeAnswer => exact keepsTable_judgeAnswer h
  | changeNotice => exact keepsTable_changeNotice h
  | graceEnd i => exact keepsTable_graceEnd h i
  | probeResult l =>
    exact keepsTable_of_table h rfl ((drive_table _).trans (judgingOnly_takeProbeResult s l).table)
  | passageRemovalReport l => exact keepsTable_passageRemovalReport h l
  | deskAddressByte a d => exact keepsTable_of_table h rfl rfl
  | deskWriteByte b => exact keepsTable_of_table h rfl rfl
  | deskRepeatedStartWrite a d => exact keepsTable_of_table h rfl rfl
  | deskStopCondition => exact keepsTable_of_table h rfl rfl
  | deskReplyByte => exact keepsTable_of_table h rfl rfl
  | deskReplyDeclined => exact keepsTable_of_table h rfl rfl
  | serviceByte b => exact keepsTable_of_table h rfl rfl
  | frameTimeout => exact keepsTable_of_table h rfl rfl
  | replySent => exact keepsTable_of_table h rfl rfl

/-- A step runs a command on a state with the same table, or lets a millisecond pass, which leaves the table. -/
theorem step_keepsTable {s t : State} (h : s.TableSound) (run : step s = .next t) : t.TableSound := by
  have ran : ∀ {c u}, u.TableSound → exec c u = .next t → t.TableSound := by
    intro c u sound answer
    obtain ⟨t', answer', sound'⟩ := exec_keepsTable c sound
    rw [answer'] at answer
    cases answer
    exact sound'
  unfold step at run
  split at run
  next rest _ => exact ran (u := { s with pending := rest }) (h.of_table rfl) run
  · unfold idle at run
    split at run
    · exact ran h run
    · cases run
      exact h.of_table rfl

end Sys2Proof.Machine

/-! # The statements about the clearance table, settled -/

namespace Sys2Proof.Proofs

open Sys2Proof Sys2Proof.Machine

/-- Settles O56: each write of a claim keeps the table sound, and every other command leaves its entries and pending counts. -/
theorem stepsKeepTheTableSound : Obligations.StepsKeepTheTableSound := by
  unfold Obligations.StepsKeepTheTableSound
  simp only [← State.tableSound_iff]
  intro s t sound run
  exact step_keepsTable sound run

/-- Settles O60: the lists of the power-on state are empty, its arbiters are free and its lanes have nothing in flight. -/
theorem resetMeetsTheInvariants : Obligations.ResetMeetsTheInvariants := by
  unfold Obligations.ResetMeetsTheInvariants
  obtain ⟨ordered, counted, limits⟩ := (State.tableSound_iff State.reset).1 (State.tableSound_of_empty rfl rfl)
  refine ⟨ordered, counted, limits, ?passages, ?log, ?judgements, ?bands, ?time, ?probes, ?awaited, ?buffers, rfl⟩
  case passages =>
    intro l
    rw [State.reset_lane]
    exact ⟨Nat.zero_le _, List.nodup_nil⟩
  case log => exact ⟨Nat.zero_le _, List.nodup_nil⟩
  case judgements => exact List.nodup_nil
  case bands =>
    refine ⟨fun l flight => ?_, fun g l held => ?_, fun l asks => ?_⟩
    · rw [State.reset_lane] at flight
      exact absurd rfl flight
    · rw [State.reset_arbiter] at held
      cases held
    · rw [State.reset_lane] at asks
      cases asks
  case time =>
    show 0 < hallModulus
    decide
  case probes =>
    intro l
    rw [State.reset_lane]
    exact Nat.zero_le _
  case awaited =>
    intro l
    rw [State.reset_lane]
    exact ⟨rfl, Nat.zero_le _, fun _ => ⟨rfl, rfl⟩⟩
  case buffers => exact ⟨Nat.zero_le _, Nat.zero_le _, Nat.zero_le _⟩

end Sys2Proof.Proofs

/-! # What the claims come to

The effect of each claim on the table in each condition of its entry, and the service of a claim by the table port. -/

namespace Sys2Proof.Machine

/-! ## Membership of a rewritten list -/

/-- Writing an entry leaves the entries of every other item. -/
theorem mem_insertEntry_iff_of_ne {e x : Entry} {es : List Entry} (other : x.item ≠ e.item) :
    x ∈ insertEntry e es ↔ x ∈ es := by
  have ne : x ≠ e := fun same => other (by rw [same])
  induction es with
  | nil => simp [insertEntry, ne]
  | cons y ys ih =>
    rw [insertEntry]
    split
    · simp [ne]
    · split
      next same =>
        have : x ≠ y := fun h => other (by rw [h, same])
        simp [ne, this]
      · simp [ih]

/-! ## The entry of a stage with the earliest due time (02 R29, R34) -/

/-- The entry that meets a test with the earliest due time; of two with equal due times, the first in the list. -/
def earliest (test : Entry → Bool) : List Entry → Option Entry
  | [] => none
  | e :: es =>
    match earliest test es with
    | none => if test e then some e else none
    | some v => if test e && decide (e.due ≤ v.due) then some e else some v

theorem evictionVictim_eq_earliest (es : List Entry) : evictionVictim es = earliest (·.stage == .departed) es := by
  induction es with
  | nil => rfl
  | cons e es ih =>
    rw [evictionVictim, earliest, ih] <;> rfl

theorem dueEntry_eq_earliest (now : Time) (es : List Entry) :
    State.dueEntry now es = earliest (fun e => decide (e.due ≤ now)) es := by
  induction es with
  | nil => rfl
  | cons e es ih =>
    rw [State.dueEntry, earliest, ih]
    cases earliest _ es with
    | none => simp
    | some v => rfl

theorem earliest_mem {test : Entry → Bool} {es : List Entry} {v : Entry} (h : earliest test es = some v) :
    v ∈ es ∧ test v = true := by
  induction es generalizing v with
  | nil => cases h
  | cons e es ih =>
    rw [earliest] at h
    split at h
    · split at h
      next ok => cases h; exact ⟨List.mem_cons_self, ok⟩
      next => cases h
    next w found =>
      split at h
      next ok => cases h; exact ⟨List.mem_cons_self, (Bool.and_eq_true _ _ ▸ ok).1⟩
      next =>
        cases h
        obtain ⟨mem, ok⟩ := ih found
        exact ⟨List.mem_cons_of_mem _ mem, ok⟩

theorem earliest_none {test : Entry → Bool} {es : List Entry} (h : ∀ e ∈ es, test e = false) : earliest test es = none := by
  cases found : earliest test es with
  | none => rfl
  | some v =>
    obtain ⟨mem, ok⟩ := earliest_mem found
    rw [h v mem] at ok
    cases ok

/-- In an ordered table the earliest is the entry that no other precedes by due time, or by item at an equal due time. -/
theorem earliest_eq_some {test : Entry → Bool} {es : List Entry} {v : Entry} (rising : Rising es) (mem : v ∈ es)
    (ok : test v = true)
    (least : ∀ e ∈ es, test e = true → v.due < e.due ∨ v.due = e.due ∧ v.item ≤ e.item) : earliest test es = some v := by
  induction es with
  | nil => cases mem
  | cons e es ih =>
    obtain ⟨above, rest⟩ := List.pairwise_cons.1 rising
    rw [earliest]
    rcases List.mem_cons.1 mem with rfl | mem
    · split
      · rw [if_pos ok]
      next w found =>
        obtain ⟨wmem, wok⟩ := earliest_mem found
        have notAfter : v.due ≤ w.due := by
          rcases least w (List.mem_cons_of_mem _ wmem) wok with lt | ⟨eq, -⟩
          · exact Nat.le_of_lt lt
          · exact Nat.le_of_eq eq
        rw [if_pos (by simp [ok, notAfter])]
    · rw [ih rest mem fun x hx => least x (List.mem_cons_of_mem _ hx)]
      dsimp only
      rw [if_neg]
      intro both
      simp only [Bool.and_eq_true, decide_eq_true_eq] at both
      rcases least e List.mem_cons_self both.1 with lt | ⟨-, le⟩
      · exact Nat.not_lt.2 both.2 lt
      · exact Nat.not_lt.2 le (above v mem)

namespace State

/-! ## Room for a new entry -/

/-- The table with an entry evicted. -/
def evict (s : State) (v : Entry) : State :=
  { s with table := { s.table with
      entries := s.table.entries.filter fun x => x.item != v.item, evicted := s.table.evicted + 1 } }

variable {s : State} {i : Item} {src : Source} {o : ClaimOptions} {e : Entry}

theorem create_of_room (room : s.table.entries.length < 4096) (answer : Code) (add : State → State) :
    s.create answer add = (add s, answer) :=
  create_room (by unfold makeRoom; exact if_pos room) answer add

theorem create_of_victim (ordered : s.tableOrdered) (full : 4096 ≤ s.table.entries.length) {v : Entry}
    (mem : v ∈ s.table.entries) (departed : v.stage = .departed)
    (least : ∀ e ∈ s.table.entries, e.stage = .departed → v.due < e.due ∨ v.due = e.due ∧ v.item ≤ e.item)
    (answer : Code) (add : State → State) : s.create answer add = (add (s.evict v), answer) := by
  have victim : evictionVictim s.table.entries = some v := by
    rw [evictionVictim_eq_earliest]
    exact earliest_eq_some ordered mem (by simp [departed]) fun e he stage => least e he (by simpa using stage)
  rcases s.makeRoom_cases with ⟨room, -⟩ | ⟨-, w, found, made⟩ | ⟨-, none, -⟩
  · exact absurd full (Nat.not_le.2 room)
  · obtain rfl : v = w := Option.some.inj (victim.symm.trans found)
    exact create_room made answer add
  · rw [none] at victim
    cases victim

theorem create_of_none_departed (full : 4096 ≤ s.table.entries.length) (none : ∀ e ∈ s.table.entries, e.stage ≠ .departed)
    (answer : Code) (add : State → State) : s.create answer add = (s.raise .tableFull, .tableFull) := by
  have victim : evictionVictim s.table.entries = Option.none := by
    rw [evictionVictim_eq_earliest]
    exact earliest_none fun e he => by simpa using none e he
  rcases s.makeRoom_cases with ⟨room, -⟩ | ⟨-, v, found, -⟩ | ⟨-, -, made⟩
  · exact absurd full (Nat.not_le.2 room)
  · rw [victim] at found
    cases found
  · exact create_full made answer add

/-! ## The settling test (03 R54) -/

theorem settles_iff (s : State) (i : Item) (r : AlarmRecord) :
    s.settles i r = true ↔ r.item = i ∧ (r.cls = .unissued ∨ r.cls = .lapsed) ∧ (r.state = .opened ∨ r.state = .acknowledged)
      ∧ 0 < s.hall.lateWindow ∧ s.hallTime - r.raised ≤ 1000 * s.hall.lateWindow := by
  have stands : r.state.standsOpen = true ↔ r.state = .opened ∨ r.state = .acknowledged := by
    cases r.state <;> simp [AlarmState.standsOpen]
  have recent : s.hallTime ≤ r.raised + seconds s.hall.lateWindow ↔ s.hallTime - r.raised ≤ 1000 * s.hall.lateWindow :=
    Nat.sub_le_iff_le_add'.symm
  simp only [settles, Bool.and_eq_true, Bool.or_eq_true, beq_iff_eq, decide_eq_true_eq, stands, recent, and_assoc]

theorem settling_eq_find (s : State) (i : Item) : s.settling i = s.log.records.reverse.find? (s.settles i) := by
  rw [settling, ← List.head?_filter, List.filter_reverse, List.head?_reverse]

theorem settling_eq_none_iff (s : State) (i : Item) : s.settling i = none ↔ ∀ r ∈ s.log.records, ¬ s.settles i r = true := by
  rw [settling_eq_find, List.find?_eq_none]
  simp

/-- The record that a claim settles is the newest that meets the test. -/
theorem settling_eq_some {s : State} {i : Item} {r : AlarmRecord} (h : s.settling i = some r) :
    ∃ older newer, s.log.records = older ++ r :: newer ∧ s.settles i r = true ∧ ∀ x ∈ newer, ¬ s.settles i x = true := by
  rw [settling_eq_find, List.find?_eq_some_iff_append] at h
  obtain ⟨ok, newer, older, reversed, none⟩ := h
  refine ⟨older.reverse, newer.reverse, ?_, ok, fun x hx => ?_⟩
  · have := congrArg List.reverse reversed
    simpa using this
  · simpa using none x (by simpa using hx)

/-! ## HOLD (03 R48) -/

theorem owns_iff (src : Source) (e : Entry) : owns src e = true ↔ src = .link ∨ src = e.source := by
  simp [owns]

theorem holdClaim_of_limits (absent : s.findEntry i = none) (closed : 256 ≤ s.stageCount .pending ∨ 32 ≤ s.pendingCount src) :
    s.holdClaim i src o = (s, .pendingFull) := by
  rw [holdClaim, absent]
  dsimp only
  rw [if_pos (by simp only [Bool.or_eq_true, decide_eq_true_eq]; exact closed)]

theorem holdClaim_of_absent (absent : s.findEntry i = none) (all : s.stageCount .pending < 256) (own : s.pendingCount src < 32) :
    s.holdClaim i src o = s.create .done fun t => t.createPending i src o := by
  simp [holdClaim, absent, Config.pendingCapacity, Config.pendingPerSource, Nat.not_le.2 all, Nat.not_le.2 own]

theorem holdClaim_of_own (found : s.findEntry i = some e) (pending : e.stage = .pending) (own : e.source = src) :
    s.holdClaim i src o = (s.restartPending e o, .done) := by
  simp [holdClaim, found, pending, own]

theorem holdClaim_of_other (found : s.findEntry i = some e) (pending : e.stage = .pending) (other : e.source ≠ src) :
    s.holdClaim i src o = (s, .heldElsewhere) := by
  simp [holdClaim, found, pending, other]

theorem holdClaim_of_cleared (found : s.findEntry i = some e) (stage : e.stage ≠ .pending) :
    s.holdClaim i src o = (s, .alreadyCleared) := by
  rw [holdClaim, found]
  dsimp only
  split
  next pending => exact absurd pending stage
  all_goals rfl

/-! ## ISSUE, CONFIRM and LOAD (03 R49, R50, R55, R62) -/

theorem issueClaim_of_absent (absent : s.findEntry i = none) (none : s.settling i = none) :
    s.issueClaim i src o = s.create .done fun t => t.createCleared i src o := by
  simp [issueClaim, absent, none]

theorem issueClaim_of_settling {r : AlarmRecord} (absent : s.findEntry i = none) (settles : s.settling i = some r) :
    s.issueClaim i src o = s.settleAbsent i src o r := by
  simp [issueClaim, absent, settles]

theorem issueClaim_of_pending (found : s.findEntry i = some e) (pending : e.stage = .pending)
    (own : src = .link ∨ src = e.source) (none : s.settling i = none) :
    s.issueClaim i src o = (s.confirmEntry e o.allowance, .done) := by
  simp [issueClaim, found, pending, (owns_iff src e).2 own, none]

theorem issueClaim_of_pending_settling {r : AlarmRecord} (found : s.findEntry i = some e) (pending : e.stage = .pending)
    (own : src = .link ∨ src = e.source) (settles : s.settling i = some r) :
    s.issueClaim i src o = (s.settlePending e o.allowance r, .settled) := by
  simp [issueClaim, found, pending, (owns_iff src e).2 own, settles]

theorem issueClaim_of_other (found : s.findEntry i = some e) (pending : e.stage = .pending)
    (other : ¬ (src = .link ∨ src = e.source)) : s.issueClaim i src o = (s, .heldElsewhere) := by
  rw [← owns_iff] at other
  simp [issueClaim, found, pending, other]

theorem issueClaim_of_cleared (found : s.findEntry i = some e) (stage : e.stage ≠ .pending) :
    s.issueClaim i src o = (s.renewEntry e o, .renewed) := by
  rw [issueClaim, found]
  dsimp only
  split
  next pending => exact absurd pending stage
  all_goals rfl

theorem confirmClaim_of_absent (absent : s.findEntry i = none) (none : s.settling i = none) :
    s.confirmClaim i src o = (s, .noEntry) := by
  simp [confirmClaim, absent, none]

theorem confirmClaim_of_settling {r : AlarmRecord} (absent : s.findEntry i = none) (settles : s.settling i = some r) :
    s.confirmClaim i src o = s.settleAbsent i src o r := by
  simp [confirmClaim, absent, settles]

theorem confirmClaim_of_pending (found : s.findEntry i = some e) (pending : e.stage = .pending)
    (own : src = .link ∨ src = e.source) (none : s.settling i = none) :
    s.confirmClaim i src o = (s.confirmEntry e o.allowance, .done) := by
  simp [confirmClaim, found, pending, (owns_iff src e).2 own, none]

theorem confirmClaim_of_pending_settling {r : AlarmRecord} (found : s.findEntry i = some e) (pending : e.stage = .pending)
    (own : src = .link ∨ src = e.source) (settles : s.settling i = some r) :
    s.confirmClaim i src o = (s.settlePending e o.allowance r, .settled) := by
  simp [confirmClaim, found, pending, (owns_iff src e).2 own, settles]

theorem confirmClaim_of_other (found : s.findEntry i = some e) (pending : e.stage = .pending)
    (other : ¬ (src = .link ∨ src = e.source)) : s.confirmClaim i src o = (s, .notOwner) := by
  rw [← owns_iff] at other
  simp [confirmClaim, found, pending, other]

theorem confirmClaim_of_cleared (found : s.findEntry i = some e) (stage : e.stage ≠ .pending) :
    s.confirmClaim i src o = (s, .alreadyCleared) := by
  rw [confirmClaim, found]
  dsimp only
  split
  next pending => exact absurd pending stage
  all_goals rfl

theorem loadClaim_of_absent (absent : s.findEntry i = none) :
    s.loadClaim i o = s.create .done fun t => t.createCleared i .link o := by
  simp [loadClaim, absent]

theorem loadClaim_of_pending (found : s.findEntry i = some e) (pending : e.stage = .pending) :
    s.loadClaim i o = (s, .heldElsewhere) := by
  simp [loadClaim, found, pending]

theorem loadClaim_of_cleared (found : s.findEntry i = some e) (stage : e.stage ≠ .pending) :
    s.loadClaim i o = (s.renewEntry e o, .renewed) := by
  rw [loadClaim, found]
  dsimp only
  split
  next pending => exact absurd pending stage
  all_goals rfl

/-! ## Claims that settle an alarm (03 R55) -/

/-- The alarm log with the record of a number SETTLED. -/
def settledLog (s : State) (number : BitVec 16) : AlarmLog :=
  { s.log with records := s.log.records.map fun x =>
      if x.number = number then { x with state := .settled, closedAt := some s.hallTime, closedBy := none } else x }

theorem settleRecord_eq (s : State) (number : BitVec 16) : s.settleRecord number = { s with log := s.settledLog number } := by
  simp only [settleRecord, setRecords, settledLog, beq_iff_eq]

theorem settleAbsent_of_no_leeway (s : State) (i : Item) (src : Source) (o : ClaimOptions) (r : AlarmRecord)
    (leeway : s.hall.leeway = 0) : s.settleAbsent i src o r = ({ s with log := s.settledLog r.number }, .settled) := by
  rw [settleAbsent, if_pos leeway, settleRecord_eq]

theorem settleAbsent_of_leeway (s : State) (i : Item) (src : Source) (o : ClaimOptions) (r : AlarmRecord)
    (leeway : s.hall.leeway ≠ 0) : s.settleAbsent i src o r = s.create .settled fun t =>
      { t.putEntry { s.newEntry i src o .departed s.leewayEnd with exits := 1, lastLane := some r.lane } with
          log := t.settledLog r.number } := by
  rw [settleAbsent, if_neg leeway]
  simp only [settleRecord_eq]
  rfl

theorem settlePending_eq (s : State) (e : Entry) (a : Option Nat) (r : AlarmRecord) : s.settlePending e a r =
    { s with
        table := { s.table with
          entries := if s.hall.leeway = 0 then s.table.entries.filter fun x => x.item != e.item
            else insertEntry { e with stage := .departed, allowance := a.getD e.allowance, due := s.leewayEnd, exits := 1,
                                      lastLane := some r.lane } s.table.entries
          pendingCounts := s.table.pendingCounts.set e.source.index (s.pendingCount e.source - 1) }
        judge := { s.judge with inbox := s.judge.inbox ++ [.notice e.item .pendingGone] }
        log := s.settledLog r.number } := by
  unfold settlePending
  dsimp only
  rw [settleRecord_eq]
  split <;> rfl

theorem itemClaim_of_settling {k : ItemKind} {r : AlarmRecord} (kind : k = .issue ∨ k = .confirm)
    (absent : s.findEntry i = none) (settles : s.settling i = some r) :
    s.itemClaim k i src o = s.settleAbsent i src o r := by
  rcases kind with rfl | rfl
  · exact issueClaim_of_settling absent settles
  · exact confirmClaim_of_settling absent settles

theorem itemClaim_of_pending_settling {k : ItemKind} {r : AlarmRecord} (kind : k = .issue ∨ k = .confirm)
    (found : s.findEntry i = some e) (pending : e.stage = .pending) (own : src = .link ∨ src = e.source)
    (settles : s.settling i = some r) : s.itemClaim k i src o = (s.settlePending e o.allowance r, .settled) := by
  rcases kind with rfl | rfl
  · exact issueClaim_of_pending_settling found pending own settles
  · exact confirmClaim_of_pending_settling found pending own settles

end State

/-! ## What the effect of a claim leaves unchanged -/

/-- Nothing changes but the table, what is on its way to the judgement unit, the alarm log, and the notice set and line. -/
def EffectOnly (s t : State) : Prop :=
  t = { s with table := t.table, judge := { s.judge with inbox := t.judge.inbox }, log := t.log,
               link := { s.link with notices := t.link.notices, noticeLine := t.link.noticeLine } }

theorem EffectOnly.refl (s : State) : EffectOnly s s := rfl

theorem EffectOnly.trans {s t u : State} (h₁ : EffectOnly s t) (h₂ : EffectOnly t u) : EffectOnly s u := by
  unfold EffectOnly at *
  rw [h₁] at h₂
  exact h₂

namespace State

theorem effectOnly_create (s : State) (c : Code) {add : State → State} (h : ∀ t, EffectOnly t (add t)) :
    EffectOnly s (s.create c add).1 := by
  unfold create
  split
  next t made =>
    refine EffectOnly.trans ?_ (h t)
    unfold makeRoom at made
    split at made
    · cases made; rfl
    · split at made
      · cases made; rfl
      · cases made
  · rfl

theorem effectOnly_settleAbsent (s : State) (i : Item) (src : Source) (o : ClaimOptions) (r : AlarmRecord) :
    EffectOnly s (s.settleAbsent i src o r).1 := by
  unfold settleAbsent
  split
  · rfl
  · exact effectOnly_create s _ fun _ => rfl

theorem effectOnly_settlePending (s : State) (e : Entry) (a : Option Nat) (r : AlarmRecord) :
    EffectOnly s (s.settlePending e a r) := by
  unfold settlePending
  dsimp only
  split <;> rfl

theorem effectOnly_holdClaim (s : State) (i : Item) (src : Source) (o : ClaimOptions) :
    EffectOnly s (s.holdClaim i src o).1 := by
  unfold holdClaim
  split
  · split
    · rfl
    · exact effectOnly_create s _ fun _ => rfl
  · split
    · split <;> rfl
    · rfl
    · rfl

theorem effectOnly_issueClaim (s : State) (i : Item) (src : Source) (o : ClaimOptions) :
    EffectOnly s (s.issueClaim i src o).1 := by
  unfold issueClaim
  split
  · split
    · exact effectOnly_settleAbsent ..
    · exact effectOnly_create s _ fun _ => rfl
  · split
    · split
      · split
        · exact effectOnly_settlePending ..
        · rfl
      · rfl
    · rfl
    · rfl

theorem effectOnly_confirmClaim (s : State) (i : Item) (src : Source) (o : ClaimOptions) :
    EffectOnly s (s.confirmClaim i src o).1 := by
  unfold confirmClaim
  split
  · split
    · exact effectOnly_settleAbsent ..
    · rfl
  · split
    · split
      · split
        · exact effectOnly_settlePending ..
        · rfl
      · rfl
    · rfl
    · rfl

theorem effectOnly_cancelClaim (s : State) (i : Item) (src : Source) : EffectOnly s (s.cancelClaim i src).1 := by
  unfold cancelClaim
  split
  · rfl
  · split
    · split <;> rfl
    · rfl
    · rfl

theorem effectOnly_dischargeClaim (s : State) (i : Item) : EffectOnly s (s.dischargeClaim i).1 := by
  unfold dischargeClaim
  split
  · rfl
  · split <;> rfl

theorem effectOnly_loadClaim (s : State) (i : Item) (o : ClaimOptions) : EffectOnly s (s.loadClaim i o).1 := by
  unfold loadClaim
  split
  · exact effectOnly_create s _ fun _ => rfl
  · split <;> rfl

theorem effectOnly_itemClaim (s : State) (k : ItemKind) (i : Item) (src : Source) (o : ClaimOptions) :
    EffectOnly s (s.itemClaim k i src o).1 := by
  cases k with
  | hold => exact effectOnly_holdClaim s i src o
  | issue => exact effectOnly_issueClaim s i src o
  | confirm => exact effectOnly_confirmClaim s i src o
  | cancel => exact effectOnly_cancelClaim s i src
  | discharge => exact effectOnly_dischargeClaim s i
  | query => exact EffectOnly.refl s
  | load => exact effectOnly_loadClaim s i o

theorem effectOnly_batchClaim (s : State) (k : BatchKind) (requester : Source) (e : Entry) :
    EffectOnly s (s.batchClaim k requester e).1 := by
  unfold batchClaim
  split
  · split <;> rfl
  · rfl

end State

theorem EffectOnly.workOf {s t : State} (h : EffectOnly s t) (p : PortId) : t.workOf p = s.workOf p := by
  rw [h]
  cases p <;> rfl

namespace State

/-! ## The table port's service of an item's claim -/

/-- The command that takes the claim of an item request's kind. -/
def claimCommand : ItemKind → Instr
  | .hold => .holdClaim
  | .issue => .issueClaim
  | .confirm => .confirmClaim
  | .cancel => .cancelClaim
  | .discharge => .dischargeClaim
  | .query => .queryClaim
  | .load => .loadClaim

/-- The outputs are driven after a claim that may settle an alarm. -/
theorem exec_claimCommand (k : ItemKind) (s : State) :
    exec (claimCommand k) s =
      .next (if k = .issue ∨ k = .confirm then (s.takeItemClaim k).drive else s.takeItemClaim k) := by
  cases k <;> rfl

/-- Taking a claim changes the table port alone. -/
theorem takeFrom_eq (s : State) (p : PortId) : ∃ q, s.takeFrom p = s.setPort q := by
  cases p <;> exact ⟨_, rfl⟩

section
variable {s t u : State} {p : PortId} {k : ItemKind} {i : Item} {src : Source} {o o' : ClaimOptions} {rest : List RawItem}
  {rs : List ItemResult} {code : Code}

/-- The next claim of a request in work: its effect and its result, and the request's next items. -/
theorem takeItemClaim_of_work (next : s.port.nextRequest = some (p, .item k i src o))
    (owned : p = .desk → s.port.deskOrphan = false) (work : s.workOf p = .items k src o' rest rs)
    (taken : s.takeFrom p = u) (claim : u.itemClaim k i src o = (t, code)) :
    s.takeItemClaim k = t.workItems p k src o' rest (rs ++ [s.claimResult t k i code]) := by
  subst taken
  have live : s.answered p = true := by
    cases p with
    | desk => simp [answered, owned rfl]
    | link => rfl
  have still : t.workOf p = .items k src o' rest rs := by
    have effect := effectOnly_itemClaim (s.takeFrom p) k i src o
    rw [claim] at effect
    rw [effect.workOf, ← work]
    cases p <;> rfl
  unfold takeItemClaim
  simp only [next, claim, live, still, if_true]

/-- A claim of an ISSUE or a CONFIRM in work, whose step drives the outputs at its end. -/
theorem exec_claim_driven (kind : k = .issue ∨ k = .confirm) (next : s.port.nextRequest = some (p, .item k i src o))
    (owned : p = .desk → s.port.deskOrphan = false) (work : s.workOf p = .items k src o' rest rs)
    (taken : s.takeFrom p = u) (claim : u.itemClaim k i src o = (t, code)) :
    exec (claimCommand k) s = .next (t.workItems p k src o' rest
      (rs ++ [{ code := code, atGate := s.atGate i, alarmOpen := t.alarmOpen i, entry := none }])).drive := by
  rw [exec_claimCommand, if_pos kind, takeItemClaim_of_work next owned work taken claim]
  rcases kind with rfl | rfl <;> rfl

/-- A claim of a HOLD or a LOAD in work, whose step drives no output. -/
theorem exec_claim_undriven (kind : k = .hold ∨ k = .load) (next : s.port.nextRequest = some (p, .item k i src o))
    (owned : p = .desk → s.port.deskOrphan = false) (work : s.workOf p = .items k src o' rest rs)
    (taken : s.takeFrom p = u) (claim : u.itemClaim k i src o = (t, code)) :
    exec (claimCommand k) s = .next (t.workItems p k src o' rest
      (rs ++ [{ code := code, atGate := s.atGate i, alarmOpen := t.alarmOpen i, entry := none }])) := by
  rw [exec_claimCommand, takeItemClaim_of_work next owned work taken claim]
  rcases kind with rfl | rfl <;> rfl

/-- An orphaned desk claim has its effect and answers no request. -/
theorem takeItemClaim_of_orphan (next : s.port.nextRequest = some (.desk, .item k i src o)) (orphan : s.port.deskOrphan = true) :
    s.takeItemClaim k = ((s.takeFrom .desk).itemClaim k i src o).1 := by
  have dead : s.answered .desk = false := by simp [answered, orphan]
  unfold takeItemClaim
  simp only [next, dead, if_true]

end

end State

end Sys2Proof.Machine

/-! # The statements about the claims, settled -/

namespace Sys2Proof.Proofs

open Sys2Proof Sys2Proof.Machine Sys2Proof.Machine.State

/-- Settles O20: the rules for `insertEntry`, and in each condition of the item's entry the effect of the claim, which leaves the
alarm log. -/
theorem holdClaimOutcomes : Obligations.HoldClaimOutcomes := by
  unfold Obligations.HoldClaimOutcomes
  refine ⟨fun e es => ⟨find_insertEntry e es, fun x other => mem_insertEntry_iff_of_ne other, insertEntry_ordered⟩, ?_⟩
  intro s p i src o o' rest rs next owned work
  obtain ⟨q, hu⟩ := s.takeFrom_eq p
  rw [hu]
  let u := s.setPort q
  refine ⟨fun absent closed => ?full, fun absent all own room => ?made, fun e found => ⟨fun pending own => ?restarted,
    fun pending other => ?elsewhere, fun stage => ?cleared⟩⟩
  case full => exact exec_claim_undriven (.inl rfl) next owned work hu (holdClaim_of_limits (s := u) (o := o) absent closed)
  case made => exact exec_claim_undriven (.inl rfl) next owned work hu ((holdClaim_of_absent (s := u) (o := o) absent all own).trans (create_of_room (s := u) room ..))
  case restarted => exact exec_claim_undriven (.inl rfl) next owned work hu (holdClaim_of_own (s := u) (o := o) found pending own)
  case elsewhere => exact exec_claim_undriven (.inl rfl) next owned work hu (holdClaim_of_other (s := u) (o := o) found pending other)
  case cleared => exact exec_claim_undriven (.inl rfl) next owned work hu (holdClaim_of_cleared (s := u) (o := o) found stage)

/-- Settles O25: the effect of a LOAD in each condition of the entry of its item, by the service of a claim of a request in work. -/
theorem loadClaimOutcomes : Obligations.LoadClaimOutcomes := by
  unfold Obligations.LoadClaimOutcomes
  intro s i src o o' rest rs next work batch
  obtain ⟨q, hu⟩ := s.takeFrom_eq .link
  obtain ⟨_, lanes, allowance⟩ := o
  obtain rfl : _ = none := batch
  rw [hu]
  let u := s.setPort q
  refine ⟨fun absent room => ?made, fun e found => ?_⟩
  case made => exact exec_claim_undriven (.inr rfl) next nofun work hu ((loadClaim_of_absent (s := u) (o := { batch := none, lanes, allowance }) absent).trans (create_of_room (s := u) room ..))
  obtain rfl := findEntry_item found
  refine ⟨fun pending => ?pending, fun stage => ?renewed⟩
  case pending => exact exec_claim_undriven (.inr rfl) next nofun work hu (loadClaim_of_pending (s := u) (o := { batch := none, lanes, allowance }) found pending)
  case renewed => exact exec_claim_undriven (.inr rfl) next nofun work hu (loadClaim_of_cleared (s := u) (o := { batch := none, lanes, allowance }) found stage)

/-- Settles O21: ISSUE and CONFIRM read the entry first; a settling record matters only where the entry is absent or PENDING for
its own source or the host. -/
theorem issueAndConfirmClaimsThatDoNotSettle : Obligations.IssueAndConfirmClaimsThatDoNotSettle := by
  unfold Obligations.IssueAndConfirmClaimsThatDoNotSettle
  intro s p k i src o o' rest rs next owned work
  obtain ⟨q, hu⟩ := s.takeFrom_eq p
  rw [hu]
  let u := s.setPort q
  constructor
  · rintro rfl
    refine ⟨fun absent none room => ?made, fun e found => ?_⟩
    case made => exact exec_claim_driven (.inl rfl) next owned work hu ((issueClaim_of_absent (s := u) (o := o) absent none).trans (create_of_room (s := u) room ..))
    obtain rfl := findEntry_item found
    refine ⟨fun pending own none => ?confirmed,
      fun pending other => ?elsewhere, fun stage => ?renewed⟩
    case confirmed => exact exec_claim_driven (.inl rfl) next owned work hu (issueClaim_of_pending (s := u) (o := o) found pending own none)
    case elsewhere => exact exec_claim_driven (.inl rfl) next owned work hu (issueClaim_of_other (s := u) (o := o) found pending other)
    case renewed => exact exec_claim_driven (.inl rfl) next owned work hu (issueClaim_of_cleared (s := u) (o := o) found stage)
  · rintro rfl
    refine ⟨fun absent none => ?noEntry, fun e found => ?_⟩
    case noEntry => exact exec_claim_driven (.inr rfl) next owned work hu (confirmClaim_of_absent (s := u) (o := o) absent none)
    obtain rfl := findEntry_item found
    refine ⟨fun pending own none => ?confirmed,
      fun pending other => ?notOwner, fun stage => ?cleared⟩
    case confirmed => exact exec_claim_driven (.inr rfl) next owned work hu (confirmClaim_of_pending (s := u) (o := o) found pending own none)
    case notOwner => exact exec_claim_driven (.inr rfl) next owned work hu (confirmClaim_of_other (s := u) (o := o) found pending other)
    case cleared => exact exec_claim_driven (.inr rfl) next owned work hu (confirmClaim_of_cleared (s := u) (o := o) found stage)

/-- Settles O22: the settling test in the terms of the log, and the three ways in which a claim settles a record: no entry to
write, a DEPARTED entry created, and the claimant's own PENDING entry departed. -/
theorem issueAndConfirmClaimsThatSettle : Obligations.IssueAndConfirmClaimsThatSettle := by
  unfold Obligations.IssueAndConfirmClaimsThatSettle
  simp only [← settles_iff]
  refine ⟨?claims, fun s i => ⟨s.settling_eq_none_iff i, fun r => settling_eq_some⟩⟩
  intro s p k c i src o o' rest rs r command next owned work settles
  obtain ⟨rfl, kind⟩ : c = claimCommand k ∧ (k = .issue ∨ k = .confirm) := by
    rcases command with ⟨rfl, rfl⟩ | ⟨rfl, rfl⟩
    · exact ⟨rfl, .inl rfl⟩
    · exact ⟨rfl, .inr rfl⟩
  obtain ⟨q, hu⟩ := s.takeFrom_eq p
  rw [hu]
  let u := s.setPort q
  refine ⟨fun absent leeway => ?noEntry, fun absent leeway room => ?created, fun e found pending own => ?departed⟩
  case noEntry =>
    have claim := itemClaim_of_settling (s := u) (src := src) (o := o) kind absent settles
    exact exec_claim_driven kind next owned work hu (claim.trans (settleAbsent_of_no_leeway u i src o r leeway))
  case created =>
    have claim := itemClaim_of_settling (s := u) (src := src) (o := o) kind absent settles
    exact exec_claim_driven kind next owned work hu (claim.trans ((settleAbsent_of_leeway u i src o r leeway).trans (create_of_room (s := u) room ..)))
  case departed =>
    obtain rfl := findEntry_item found
    have claim := itemClaim_of_pending_settling (s := u) (o := o) kind found pending own settles
    rw [settlePending_eq] at claim
    exact exec_claim_driven kind next owned work hu claim

end Sys2Proof.Proofs

/-! # Claims that would add an entry to a full table -/

namespace Sys2Proof.Machine.State

variable {s t u : State} {p : PortId} {k : ItemKind} {i : Item} {src : Source} {o o' : ClaimOptions} {rest : List RawItem}
  {rs : List ItemResult} {code : Code}

/-- A claim of a kind that can add an entry. -/
theorem exec_claim_entering (kind : k = .hold ∨ k = .issue ∨ k = .confirm ∨ k = .load)
    (next : s.port.nextRequest = some (p, .item k i src o))
    (owned : p = .desk → s.port.deskOrphan = false) (work : s.workOf p = .items k src o' rest rs)
    (taken : s.takeFrom p = u) (claim : u.itemClaim k i src o = (t, code)) :
    let after := t.workItems p k src o' rest
      (rs ++ [{ code := code, atGate := s.atGate i, alarmOpen := t.alarmOpen i, entry := none }])
    exec (claimCommand k) s = .next (if k = .issue ∨ k = .confirm then after.drive else after) := by
  rw [exec_claimCommand, takeItemClaim_of_work next owned work taken claim]
  rcases kind with rfl | rfl | rfl | rfl <;> rfl

/-- The entry that a claim without a settling record adds: PENDING for a HOLD, CLEARED for an ISSUE and a LOAD. -/
def addEntry (s : State) (k : ItemKind) (i : Item) (src : Source) (o : ClaimOptions) : State :=
  if k = .hold then s.createPending i src o else s.createCleared i (if k = .load then .link else src) o

theorem itemClaim_eq_create (absent : s.findEntry i = none)
    (kind : k = .hold ∧ s.stageCount .pending < 256 ∧ s.pendingCount src < 32 ∨ k = .issue ∧ s.settling i = none ∨ k = .load) :
    s.itemClaim k i src o = s.create .done fun t => t.addEntry k i src o := by
  rcases kind with ⟨rfl, all, own⟩ | ⟨rfl, none⟩ | rfl
  · exact holdClaim_of_absent absent all own
  · exact issueClaim_of_absent absent none
  · exact loadClaim_of_absent absent

end Sys2Proof.Machine.State

namespace Sys2Proof.Proofs

open Sys2Proof Sys2Proof.Machine Sys2Proof.Machine.State

/-- Settles O26: every claim named adds its entry through `create`, which on a full table evicts the earliest DEPARTED entry or
refuses. -/
theorem aFullTableEvictsOrRefuses : Obligations.AFullTableEvictsOrRefuses := by
  unfold Obligations.AFullTableEvictsOrRefuses
  intro s p k c i src o o' rest rs command next owned work absent ordered full
  obtain ⟨rfl, kind⟩ : c = claimCommand k ∧ (k = .hold ∨ k = .issue ∨ k = .confirm ∨ k = .load) := by
    rcases command with ⟨rfl, rfl⟩ | ⟨rfl, rfl⟩ | ⟨rfl, rfl⟩ | ⟨rfl, rfl⟩ <;> simp [claimCommand]
  obtain ⟨q, hu⟩ := s.takeFrom_eq p
  rw [hu]
  let u := s.setPort q
  refine ⟨fun enters => ?adds, fun settling leeway r settles => ?departs⟩
  case adds =>
    have claim := itemClaim_eq_create (s := u) (o := o) absent enters
    refine ⟨fun none => ?_, fun v ⟨mem, departed, least⟩ => ?_⟩
    · exact exec_claim_entering kind next owned work hu (claim.trans (create_of_none_departed (s := u) full none ..))
    · have ran := exec_claim_entering kind next owned work hu
        (claim.trans (create_of_victim (s := u) ordered full mem departed least ..))
      rcases enters with ⟨rfl, -⟩ | ⟨rfl, -⟩ | rfl
      all_goals exact ran
  case departs =>
    have claim := (itemClaim_of_settling (s := u) (o := o) settling absent settles).trans
      (settleAbsent_of_leeway u i src o r leeway)
    refine ⟨fun none => ?_, fun v ⟨mem, departed, least⟩ => ?_⟩
    · exact exec_claim_entering kind next owned work hu (claim.trans (create_of_none_departed (s := u) full none ..))
    · have ran := exec_claim_entering kind next owned work hu
        (claim.trans (create_of_victim (s := u) ordered full mem departed least ..))
      rcases settling with rfl | rfl
      all_goals exact ran

end Sys2Proof.Proofs

/-! # The ring of the table port -/

namespace Sys2Proof.Machine.TablePort

variable {p : TablePort} {c : Claimant}

theorem mem_ringAfter (a c : Claimant) : c ∈ ringAfter a := by
  cases a <;> cases c <;> simp [ringAfter]

theorem ringAfter_nodup (a : Claimant) : (ringAfter a).Nodup := by
  cases a <;> simp [ringAfter]

theorem turn_eq_none_iff : p.turn = none ↔ ∀ c, p.waiting c = false := by
  rw [turn, List.find?_eq_none]
  exact ⟨fun none c => by simpa using none c (mem_ringAfter _ c), fun none c _ => by simp [none c]⟩

/-- No claimant that the ring reaches before the one whose turn it is has a claim waiting. -/
theorem not_waiting_before_turn (h : p.turn = some c) {before after : List Claimant}
    (ring : ringAfter p.lastServed = before ++ c :: after) {b : Claimant} (hb : b ∈ before) : p.waiting b = false := by
  obtain ⟨-, before', after', ring', none⟩ := List.find?_eq_some_iff_append.1 h
  have nodup := ringAfter_nodup p.lastServed
  rw [ring, List.nodup_middle, List.nodup_cons, List.mem_append, not_or] at nodup
  obtain ⟨⟨notBefore, notAfter⟩, -⟩ := nodup
  obtain ⟨same, -, -⟩ := (List.append_cons_inj_of_notMem notBefore notAfter).1 (ring.symm.trans ring')
  simpa using none b (same ▸ hb)

theorem nextRequest_desk_iff {claim : Claim} :
    p.nextRequest = some (.desk, claim) ↔ p.turn = some .desk ∧ p.desk = some claim := by
  rw [nextRequest]
  split
  next h => simp [h]
  next h => simp [h]
  all_goals simp_all

theorem nextRequest_link_iff {claim : Claim} :
    p.nextRequest = some (.link, claim) ↔ p.turn = some .link ∧ p.link = some claim := by
  rw [nextRequest]
  split
  next h => simp [h]
  next h => simp [h]
  all_goals simp_all

end Sys2Proof.Machine.TablePort

namespace Sys2Proof.Proofs

open Sys2Proof Sys2Proof.Machine

/-- Settles O18: the turn is the first waiting claimant of a ring that holds every claimant once. -/
theorem theRingServesTheNextWaitingClaimant : Obligations.TheRingServesTheNextWaitingClaimant := by
  unfold Obligations.TheRingServesTheNextWaitingClaimant
  intro p
  refine ⟨⟨rfl, rfl, rfl, rfl⟩, ?none, fun c turn => ⟨TablePort.turn_waiting turn, ?last,
    fun before after ring b mem => TablePort.not_waiting_before_turn turn ring mem⟩, rfl, rfl, rfl, rfl,
    fun claim => ⟨TablePort.nextRequest_desk_iff, TablePort.nextRequest_link_iff⟩, rfl, rfl, rfl, rfl, ?taken⟩
  case none =>
    rw [TablePort.turn_eq_none_iff]
    constructor
    · exact fun none => ⟨by simpa [TablePort.waiting] using none .desk, by simpa [TablePort.waiting] using none .link,
        by simpa [TablePort.waiting] using none .judge, by simpa [TablePort.waiting] using none .expiry⟩
    · rintro ⟨desk, link, judge, expiry⟩ c
      cases c <;> simp [TablePort.waiting, desk, link, judge, expiry]
  case last => cases c <;> rfl
  case taken =>
    rintro s rfl
    exact ⟨rfl, rfl⟩

end Sys2Proof.Proofs

/-! # The claims beside the items' own: batch series, WALK, CLEAR TABLE, JUDGE and expiry -/

namespace Sys2Proof.Machine

/-! ## Batch series, WALK and CLEAR TABLE begin -/

theorem Source.ofNumber_number (src : Source) : Source.ofNumber src.number = some src := by
  cases src with
  | link => rfl
  | desk d => simp [number, ofNumber]

theorem Source.ofNumber_eq_none {n : Nat} (h : 15 < n) : Source.ofNumber n = none := by
  rw [ofNumber, if_neg (by omega), dif_neg (by omega)]

namespace State

variable {s : State} {p : PortId} {src : Source} {kind : Byte} {k : BatchKind} {b : Nat} {named : Option Nat}

/-- A taken batch request begins its series. -/
theorem exec_batch (taken : s.workOf p = .taken src kind (.batch k b named)) :
    exec ((Request.batch k b named).command p) s = .next (s.beginBatch p k src b named) := by
  cases k <;>
    exact congrArg Host.Outcome.next (serve_of_taken taken _)

theorem beginBatch_of_selection {sel : Source} (selection : batchSelection src named = some sel) (nonzero : b ≠ 0) :
    s.beginBatch p k src b named = (s.offerClaim p (.batch k src sel b 0)).setWork p (.batch k 0) := by
  simp [beginBatch, selection, nonzero]

theorem beginBatch_of_bad (bad : b = 0 ∨ batchSelection src named = none) :
    s.beginBatch p k src b named = s.replyOn p k.number (codeReply .badValue) := by
  unfold beginBatch
  rcases bad with rfl | none
  · cases batchSelection src named <;> rfl
  · rw [none]

/-! ## CLEAR TABLE and JUDGE -/

theorem allDisabled_iff : s.allDisabled = true ↔ ∀ l, (s.lane l).state = .disabled := by
  simp [allDisabled, mem_allLanes]

theorem laneAllowed_iff (e : Entry) (l : LaneId) :
    laneAllowed e l = true ↔ ∀ set, e.lanes = some set → set.getLsbD l.val = true := by
  unfold laneAllowed
  cases e.lanes <;> simp

variable {i : Item} {l : LaneId} {e : Entry}

theorem judgeAnswer_of_absent (absent : s.findEntry i = none) : s.judgeAnswer i l = .absent := by
  simp [judgeAnswer, absent]

theorem judgeAnswer_of_pending (found : s.findEntry i = some e) (pending : e.stage = .pending) :
    s.judgeAnswer i l = .pending := by
  simp [judgeAnswer, found, pending]

theorem judgeAnswer_of_cleared (found : s.findEntry i = some e) (stage : e.stage ≠ .pending) :
    s.judgeAnswer i l = if laneAllowed e l then .pass else .wrongLane := by
  rw [judgeAnswer, found]
  dsimp only
  split
  next pending => exact absurd pending stage
  all_goals rfl

theorem judgeEffect_of_pass (found : s.findEntry i = some e) (pass : s.judgeAnswer i l = .pass) :
    s.judgeEffect i l = s.departEntry e l := by
  simp [judgeEffect, found, pass]

theorem judgeEffect_of_ne_pass {a : JudgeAnswer} (answer : s.judgeAnswer i l = a) (other : a ≠ .pass) :
    s.judgeEffect i l = s := by
  unfold judgeEffect
  split
  next pass _ => exact absurd (answer.symm.trans pass) other
  all_goals rfl

/-- A PASS writes the entry as DEPARTED, or takes it out with a leeway of 0, and does nothing else. -/
theorem departEntry_eq (s : State) (e : Entry) (l : LaneId) : s.departEntry e l =
    { s with table := { s.table with
        entries :=
          if s.hall.leeway = 0 then s.table.entries.filter fun x => x.item != e.item
          else insertEntry { e with stage := .departed, due := s.leewayEnd, exits := min 255 (e.exits + 1), lastLane := some l }
            s.table.entries } } := by
  have saturated : satSucc 255 e.exits = min 255 (e.exits + 1) := rfl
  rw [departEntry, saturated]
  split <;> rfl

/-- The judgement unit's claim, with the answer that the table gives it. -/
theorem exec_judge (turn : s.port.turn = some .judge) (claim : s.port.judge = some (i, l)) {t : State} {a : JudgeAnswer}
    (answer : (s.setPort (s.port.served .judge)).judgeAnswer i l = a)
    (effect : (s.setPort (s.port.served .judge)).judgeEffect i l = t) :
    exec .judge s = .next { t with judge := { t.judge with answer := some (i, true), inbox := t.judge.inbox ++ [.answer i a] } } := by
  subst answer effect
  have : exec .judge s = .next s.takeJudgeClaim := rfl
  rw [this, takeJudgeClaim, turn, claim]

/-! ## Expiry -/

theorem offerExpiry_of_due (idle : s.port.expiry = none) (due : dueEntry s.hallTime s.table.entries = some e) :
    s.offerExpiry = { s with port := { s.port with expiry := some e.item } } := by
  simp [offerExpiry, idle, due]

/-- The expiry process's claim: its effect, and the process looks again. -/
theorem exec_expiryClaim (turn : s.port.turn = some .expiry) (claim : s.port.expiry = some i) {t : State}
    (effect : (s.setPort (s.port.served .expiry)).expiryEffect i = t) : exec .expiryClaim s = .next t.offerExpiry := by
  subst effect
  have : exec .expiryClaim s = .next s.takeExpiryClaim := rfl
  rw [this, takeExpiryClaim, turn, claim]

theorem expiryEffect_of_due (found : s.findEntry i = some e) (due : e.due ≤ s.hallTime) :
    s.expiryEffect i = s.expireEntry e := by
  simp [expiryEffect, found, due]

theorem expiryEffect_of_void (void : s.findEntry i = none ∨ ∃ e, s.findEntry i = some e ∧ s.hallTime < e.due) :
    s.expiryEffect i = s := by
  rcases void with absent | ⟨e, found, later⟩
  · simp [expiryEffect, absent]
  · simp [expiryEffect, found, Nat.not_le.2 later]

end State

end Sys2Proof.Machine

namespace Sys2Proof.Proofs

open Sys2Proof Sys2Proof.Machine Sys2Proof.Machine.State

/-- Settles O16: what the series selects, from the requester and the source it names, and the claim that each command offers. -/
theorem batchWalkAndClearRequestsOfferTheirClaim : Obligations.BatchWalkAndClearRequestsOfferTheirClaim := by
  unfold Obligations.BatchWalkAndClearRequestsOfferTheirClaim
  refine ⟨fun s p src kind k b named taken => ⟨fun chosen nonzero own host => ?offers, fun bad => ?refused⟩,
    fun s kind => ⟨fun cursor taken => ?walk, fun taken => ?clear⟩⟩
  case offers =>
    have selection : batchSelection src named = some chosen := by
      cases src with
      | desk d => rw [own d rfl]; rfl
      | link => rw [host rfl]; exact chosen.ofNumber_number
    rw [exec_batch taken, beginBatch_of_selection selection nonzero]
    refine ⟨?_, ?_⟩
    · rintro rfl
      rfl
    · rintro rfl free
      simp [offerClaim, free, setPort, setWork]
  case refused =>
    rw [exec_batch taken, beginBatch_of_bad (bad.imp_right ?_)]
    rintro ⟨rfl, n, rfl, high⟩
    exact Source.ofNumber_eq_none high
  case walk => exact congrArg Host.Outcome.next (serve_of_taken (p := .link) taken _)
  case clear => exact congrArg Host.Outcome.next (serve_of_taken (p := .link) taken _)

/-- Settles O28: a part of a rising list rises, and the claims answer as they are defined once every lane is tested. -/
theorem walkAndClearTableClaims : Obligations.WalkAndClearTableClaims := by
  unfold Obligations.WalkAndClearTableClaims
  intro s
  refine ⟨fun cursor next => ⟨fun ordered => (ordered.filter _).take, ?walk⟩, fun next => ⟨?busy, ?emptied⟩⟩
  case walk =>
    have : exec .walkClaim s = .next s.takeWalkClaim := rfl
    rw [this, takeWalkClaim, next]
    rfl
  all_goals
    have : exec .clearTableClaim s = .next s.takeClearTableClaim := rfl
    rw [this, takeClearTableClaim, next]
  case busy =>
    rintro ⟨l, enabled⟩
    have busy : ¬ (s.takeFrom .link).allDisabled = true := fun all => enabled (allDisabled_iff.1 all l)
    simp only [clearTableClaim, if_neg busy]
  case emptied =>
    intro disabled
    have all : (s.takeFrom .link).allDisabled = true := allDisabled_iff.2 disabled
    simp only [clearTableClaim, if_pos all]
    rfl

/-- Settles O29: only the answer PASS has an effect on the table, and it departs the entry. -/
theorem judgeClaimOutcomes : Obligations.JudgeClaimOutcomes := by
  unfold Obligations.JudgeClaimOutcomes
  intro s i l turn claim
  let u := s.setPort (s.port.served .judge)
  refine ⟨fun absent => ?absent, fun e found => ?_⟩
  case absent =>
    have answer := judgeAnswer_of_absent (s := u) (l := l) absent
    exact exec_judge turn claim answer (judgeEffect_of_ne_pass (s := u) answer nofun)
  obtain rfl := findEntry_item found
  rw [← laneAllowed_iff]
  refine ⟨fun pending => ?pending, fun stage other => ?wrongLane, fun stage allowed => ?pass⟩
  case pending =>
    have answer := judgeAnswer_of_pending (s := u) (l := l) found pending
    exact exec_judge turn claim answer (judgeEffect_of_ne_pass (s := u) answer nofun)
  case wrongLane =>
    have answer := (judgeAnswer_of_cleared (s := u) found stage).trans (if_neg other)
    exact exec_judge turn claim answer (judgeEffect_of_ne_pass (s := u) answer nofun)
  case pass =>
    have answer := (judgeAnswer_of_cleared (s := u) found stage).trans (if_pos allowed)
    have effect := judgeEffect_of_pass (s := u) found answer
    exact exec_judge turn claim answer (effect.trans (departEntry_eq u e l))

/-- Settles O30: the entry named is the earliest of those due, and the claim is void or lets the entry leave by its stage. -/
theorem expiryProcessAndItsClaims : Obligations.ExpiryProcessAndItsClaims := by
  unfold Obligations.ExpiryProcessAndItsClaims
  refine ⟨fun s e ordered idle mem due least => ?names, fun s i turn claim => ?_⟩
  case names =>
    have names : dueEntry s.hallTime s.table.entries = some e := by
      rw [dueEntry_eq_earliest]
      exact earliest_eq_some ordered mem (decide_eq_true due) fun x hx ok => least x hx (of_decide_eq_true ok)
    exact congrArg Host.Outcome.next (offerExpiry_of_due idle names)
  let u := s.setPort (s.port.served .expiry)
  refine ⟨fun void => exec_expiryClaim turn claim (expiryEffect_of_void (s := u) void), fun e found due => ?_⟩
  have ran := exec_expiryClaim turn claim (expiryEffect_of_due (s := u) found due)
  obtain rfl := findEntry_item found
  rw [ran, expireEntry]
  refine ⟨fun stage => ?_, fun stage => ?_, fun stage => ?_⟩
  all_goals rw [stage]; rfl

end Sys2Proof.Proofs

/-! # The state after RESTART, and the claims of an orphaned desk request -/

namespace Sys2Proof.Machine

/-! ## Each lane after RESTART -/

/-- A head that its lane restarts: an ABORT that is owed or that the restart makes owed goes out just before IDENT. -/
theorem HeadUnit.restart_eq (u : HeadUnit) (now : Time) : u.abortCommand.leave.ident now =
    { u with state := .unknown, failures := 0, outstanding := some { command := .ident, sentAt := now }, abortOwed := false
             sent := u.sent ++ (if u.abortOwed || u.roundOut || u.probeOut then [.abort u.seq] else []) ++ [.ident] } := by
  unfold ident put leave abortCommand
  by_cases out : (u.roundOut || u.probeOut) = true
  · simp [sendOwed, out, Bool.or_assoc]
  · by_cases owed : u.abortOwed = true
    · simp [sendOwed, out, owed]
    · simp [sendOwed, out, owed]

theorem Lane.head_restarted (x : Lane) (now : Time) (dropped : Nat) (h : HeadPos) :
    (x.restarted now dropped).head h = (x.head h).abortCommand.leave.ident now := by
  cases h <;> rfl

namespace State

variable (s : State) (kind : Byte) (m : LaneId)

theorem exitsDropped_eq : s.exitsDropped m =
    (s.judge.entries.countP fun j => decide (j.owner = m ∧ j.stage ≠ .done)) + s.passagesOnTheWay m := by
  unfold exitsDropped
  congr 2
  funext j
  simp [bne, Bool.beq_eq_decide_eq]

theorem counts_restartedLane : (s.restartedLane m).counts =
    { (s.lane m).counts with
        dropped := (s.lane m).counts.dropped + BitVec.ofNat 32 (s.exitsDropped m)
        abortedRounds := (s.lane m).counts.abortedRounds + BitVec.ofNat 32 (s.lane m).roundsOut } := by
  unfold restartedLane
  generalize s.lane m = x
  rfl

/-! ## The records fall silent -/

theorem silenceRecords_log : s.silenceRecords.log = { s.log with
    records := s.log.records.map fun r =>
      if r.state = .opened ∧ s.hallTime < r.soundingEnd then { r with soundingEnd := s.hallTime } else r } := by
  simp [silenceRecords, setRecords]

theorem silenceRecords_numbers : s.silenceRecords.log.records.map AlarmRecord.number = s.log.records.map AlarmRecord.number := by
  rw [silenceRecords_log, List.map_map]
  refine List.map_congr_left fun r _ => ?_
  rw [Function.comp_apply]
  split <;> rfl

theorem soundingEnd_of_silenceRecords {r : AlarmRecord} (mem : r ∈ s.silenceRecords.log.records) (opened : r.state = .opened) :
    r.soundingEnd ≤ s.hallTime := by
  rw [silenceRecords_log] at mem
  obtain ⟨old, -, rfl⟩ := List.mem_map.1 mem
  by_cases late : old.state = .opened ∧ s.hallTime < old.soundingEnd
  · rw [if_pos late]
  · rw [if_neg late] at opened ⊢
    exact Nat.not_lt.1 fun later => late ⟨opened, later⟩

theorem sounds_of_silent {s : State} (silent : ∀ r ∈ s.log.records, r.state = .opened → r.soundingEnd ≤ s.hallTime)
    (m : LaneId) : s.sounds m = false := by
  have none : (s.log.records.any fun r => r.lane == m && r.state == .opened && decide (s.hallTime < r.soundingEnd)) = false := by
    rw [List.any_eq_false]
    intro r mem
    simp only [Bool.and_eq_true, beq_iff_eq, decide_eq_true_eq]
    rintro ⟨⟨-, opened⟩, later⟩
    exact Nat.not_lt.2 (silent r mem opened) later
  unfold sounds
  rw [none, Bool.and_false]

/-! ## The state after RESTART -/

/-- The state after RESTART, whose host is answered DONE. -/
@[irreducible] def afterRestart : State := (s.softRestart.replyOn .link kind (codeReply .done)).drive

theorem exec_restart {s : State} {kind : Byte} (taken : s.link.work = .taken .link kind .restart) :
    exec .restart s = .next (s.afterRestart kind) := by
  unfold afterRestart
  have : exec .restart s = execRestart s := rfl
  rw [this, execRestart, serve_of_taken (p := .link) taken, Option.getD_some]

/-- The state after RESTART, but for the lanes and the arbiters. -/
theorem afterRestart_frame : ∃ answer : Option (Item × Bool), (∀ i live, answer = some (i, live) → live = false)
    ∧ s.afterRestart kind = { s with
        standing := Vector.replicate 15 none, lanes := (s.afterRestart kind).lanes, bands := (s.afterRestart kind).bands
        judge := { entries := [], asking := [], answer := answer, inbox := s.judge.inbox }
        port := { s.port with judge := none, deskOrphan := s.port.desk.isSome, deskDeferred := none }
        log := s.carryOutDesk.silenceRecords.log, desk := s.carryOutDesk.desk.softRestart
        link := s.link.replyWith kind (codeReply .done) } := by
  obtain ⟨answer, dead, frame⟩ := s.softRestart_frame
  refine ⟨answer, dead, ?_⟩
  have carried := (carried_carryOutDesk s).frame
  unfold afterRestart
  have driven := drive_frame (s.softRestart.replyOn .link kind (codeReply .done))
  generalize (s.softRestart.replyOn .link kind (codeReply .done)).drive = t at driven ⊢
  generalize s.softRestart = r at driven frame
  generalize s.carryOutDesk.silenceRecords.log = log at frame ⊢
  generalize s.carryOutDesk = c at frame carried ⊢
  rw [driven, frame, carried]
  rfl

theorem arbiter_afterRestart (g : GroupId) : (s.afterRestart kind).arbiter g = s.softRestart.arbiter g := by
  unfold afterRestart
  have driven := drive_frame (s.softRestart.replyOn .link kind (codeReply .done))
  generalize (s.softRestart.replyOn .link kind (codeReply .done)).drive = t at driven ⊢
  generalize s.softRestart = r at driven ⊢
  rw [driven]
  rfl

/-- Each lane after RESTART is as the soft restart leaves it, with its sounder silent. -/
theorem lane_afterRestart : ∃ lamp, (s.afterRestart kind).lane m = { s.softRestart.lane m with sounder := false, lamp := lamp } := by
  obtain ⟨answer, -, frame⟩ := s.softRestart_frame
  have carried := (carried_carryOutDesk s).frame
  have silent : (s.softRestart.replyOn .link kind (codeReply .done)).sounds m = false := by
    refine sounds_of_silent (fun r mem opened => ?_) m
    have ends := soundingEnd_of_silenceRecords s.carryOutDesk (r := r)
    generalize s.softRestart = t at frame mem ⊢
    generalize s.carryOutDesk.silenceRecords.log = log at frame ends
    generalize s.carryOutDesk = c at frame ends
    rw [frame] at mem ⊢
    exact ends mem opened
  have sounder := drive_sounder (s.softRestart.replyOn .link kind (codeReply .done)) m
  have outputs := drive_lane (s.softRestart.replyOn .link kind (codeReply .done)) m
  rw [silent] at sounder
  unfold afterRestart
  generalize (s.softRestart.replyOn .link kind (codeReply .done)).drive = t at sounder outputs ⊢
  refine ⟨(t.lane m).lamp, ?_⟩
  rw [← sounder]
  generalize s.softRestart = r at outputs ⊢
  exact outputs

/-- A lane that is not DISABLED has gone through RESTART LANE, whatever the desk's request made of it before. -/
theorem lane_afterRestart_of_enabled (enabled : (s.lane m).state ≠ .disabled) :
    ∃ lamp, (s.afterRestart kind).lane m = { s.carryOutDesk.restartedLane m with sounder := false, lamp := lamp } := by
  obtain ⟨lamp, after⟩ := s.lane_afterRestart kind m
  rw [lane_softRestart, if_neg ((carried_carryOutDesk s).enabled m enabled)] at after
  exact ⟨lamp, after⟩

theorem lane_afterRestart_of_disabled (still : s.carryOutDesk = s) (disabled : (s.lane m).state = .disabled) :
    ∃ lamp, (s.afterRestart kind).lane m = { s.lane m with ask := false, awaited := [], sounder := false, lamp := lamp } := by
  obtain ⟨lamp, after⟩ := s.lane_afterRestart kind m
  rw [lane_softRestart, still, if_pos disabled] at after
  exact ⟨lamp, after⟩

/-- What RESTART leaves of every lane. -/
theorem lane_afterRestart_kept : ((s.afterRestart kind).lane m).settings = (s.lane m).settings
    ∧ ((s.afterRestart kind).lane m).awaited = [] ∧ ((s.afterRestart kind).lane m).sounder = false := by
  obtain ⟨lamp, after⟩ := s.lane_afterRestart kind m
  rw [after, lane_softRestart, ← (carried_carryOutDesk s).settings m]
  split
  · exact ⟨rfl, rfl, rfl⟩
  · unfold restartedLane
    generalize s.carryOutDesk.lane m = x
    exact ⟨rfl, rfl, rfl⟩

theorem beforeRestarts_holdersEnabled {s : State} (still : s.carryOutDesk = s) (sound : s.bandsSound) :
    s.beforeRestarts.holdersEnabled := by
  intro g l held
  have lane : s.beforeRestarts.lane l = { s.carryOutDesk.lane l with ask := false } := lane_modLanes ..
  rw [still] at lane
  unfold groupOf
  rw [lane]
  rw [beforeRestarts_frame, still] at held
  obtain ⟨group, work⟩ := sound.2.1 g l held
  refine ⟨group, fun disabled => ?_⟩
  rw [disabled] at work
  cases work

/-- RESTART releases every held band, and leaves every other arbiter. -/
theorem arbiter_afterRestart_of_sound {s : State} (still : s.carryOutDesk = s) (sound : s.bandsSound) (g : GroupId) :
    (∀ l, (s.arbiter g).band = .held l → (s.afterRestart kind).arbiter g = s.releasedArbiter (s.arbiter g))
      ∧ ((∀ l, (s.arbiter g).band ≠ .held l) → (s.afterRestart kind).arbiter g = s.arbiter g) := by
  obtain ⟨free, held⟩ := arbiter_foldl_restart allLanes (beforeRestarts_no_asks s) (beforeRestarts_holdersEnabled still sound) g
  have before : s.beforeRestarts.arbiter g = s.arbiter g := by
    rw [beforeRestarts_frame, still]
    rfl
  have released : s.beforeRestarts.releasedArbiter = s.releasedArbiter := by
    unfold releasedArbiter
    rw [beforeRestarts_frame, still]
  rw [← arbiter_softRestart, ← arbiter_afterRestart s kind, before] at free held
  rw [released] at held
  exact ⟨fun l holder => held l (mem_allLanes l) holder, fun none => free fun l _ => none l⟩

/-! ## The desk port's soft restart -/

theorem softRestart_address_abandoned (d : DeskPort) :
    d.softRestart.address = d.address ∧ d.softRestart.abandoned = d.abandoned := by
  unfold DeskPort.softRestart
  split <;> exact ⟨rfl, rfl⟩

/-- A port in a frame leaves it for IGNORING, of which only its address and its counter tell what it was. -/
theorem softRestart_of_busy {c d : DeskPort} (busy : c.state ≠ .idle) (address : c.address = d.address)
    (abandoned : c.abandoned = d.abandoned) : c.softRestart = d.ignore := by
  unfold DeskPort.softRestart
  split
  next idle => exact absurd idle busy
  all_goals
    unfold DeskPort.ignore
    rw [address, abandoned]

/-! ## Batch claims of an orphaned desk request -/

section
variable {s : State} {k : BatchKind} {requester sel : Source} {b : Nat} {cursor : Item}
  (next : s.port.nextRequest = some (.desk, .batch k requester sel b cursor)) (orphan : s.port.deskOrphan = true)
include next orphan

theorem takeBatchClaim_of_orphan_none (none : s.batchEntry sel b cursor = none) : s.takeBatchClaim k = s.takeFrom .desk := by
  have dead : s.answered .desk = false := by simp [answered, orphan]
  have absent : (s.takeFrom .desk).batchEntry sel b cursor = Option.none := none
  unfold takeBatchClaim
  simp only [next, dead, absent, if_true]

theorem takeBatchClaim_of_orphan_some {e : Entry} (selects : s.batchEntry sel b cursor = some e) :
    s.takeBatchClaim k = ((s.takeFrom .desk).batchClaim k requester e).1 := by
  have dead : s.answered .desk = false := by simp [answered, orphan]
  have found : (s.takeFrom .desk).batchEntry sel b cursor = some e := selects
  unfold takeBatchClaim
  simp only [next, dead, found, if_true]

end

end State

end Sys2Proof.Machine

/-! # RESTART, settled -/

namespace Sys2Proof.Machine

theorem Lane.head_outputs (x : Lane) (sounder : Bool) (lamp : Lamp) (h : HeadPos) :
    ({ x with sounder := sounder, lamp := lamp } : Lane).head h = x.head h := by
  cases h <;> rfl

namespace State

theorem carryOutDesk_hallTime (s : State) : s.carryOutDesk.hallTime = s.hallTime := by
  have frame := (carried_carryOutDesk s).frame
  generalize s.carryOutDesk = c at frame ⊢
  rw [frame]

/-- RESTART leaves the heads of a DISABLED lane. -/
theorem head_afterRestart_of_disabled {s : State} (still : s.carryOutDesk = s) {m : LaneId}
    (disabled : (s.lane m).state = .disabled) (kind : Byte) (h : HeadPos) :
    ((s.afterRestart kind).lane m).head h = (s.lane m).head h := by
  obtain ⟨lamp, lane⟩ := s.lane_afterRestart_of_disabled kind m still disabled
  rw [lane]
  cases h <;> rfl

/-- RESTART counts the exits that a lane drops and the rounds that it aborts. -/
theorem counts_afterRestart_of_enabled {s : State} (still : s.carryOutDesk = s) {m : LaneId}
    (enabled : (s.lane m).state ≠ .disabled) (kind : Byte) : ((s.afterRestart kind).lane m).counts =
      { (s.lane m).counts with
          dropped := (s.lane m).counts.dropped + BitVec.ofNat 32
            ((s.judge.entries.countP fun j => decide (j.owner = m ∧ j.stage ≠ .done)) + s.passagesOnTheWay m)
          abortedRounds := (s.lane m).counts.abortedRounds + BitVec.ofNat 32 (s.lane m).roundsOut } := by
  obtain ⟨lamp, lane⟩ := s.lane_afterRestart_of_enabled kind m enabled
  rw [still] at lane
  rw [← exitsDropped_eq]
  exact (congrArg Lane.counts lane).trans (s.counts_restartedLane m)

/-- What RESTART makes of each head of a lane that is not DISABLED. -/
theorem head_afterRestart_of_enabled {s : State} {m : LaneId} (enabled : (s.lane m).state ≠ .disabled) (kind : Byte)
    (h : HeadPos) :
    ((s.afterRestart kind).lane m).head h = ((s.carryOutDesk.lane m).head h).abortCommand.leave.ident s.hallTime := by
  obtain ⟨lamp, lane⟩ := s.lane_afterRestart_of_enabled kind m enabled
  rw [lane, Lane.head_outputs, restartedLane, Lane.head_restarted, carryOutDesk_hallTime]

/-- The outputs are driven after a claim that may settle an alarm. -/
def drivenAfter (k : ItemKind) (s : State) : State := if k = .issue ∨ k = .confirm then s.drive else s

theorem drivenAfter_frame (k : ItemKind) (s : State) : drivenAfter k s = { s with lanes := (drivenAfter k s).lanes } := by
  unfold drivenAfter
  split
  · exact drive_frame s
  · rfl

/-- The effect of an orphaned claim reaches neither port but for the claim's leaving. -/
theorem itemClaim_desk_port (s : State) (k : ItemKind) (i : Item) (src : Source) (o : ClaimOptions) :
    let t := drivenAfter k ((s.takeFrom .desk).itemClaim k i src o).1
    t.desk = s.desk ∧ t.link.reply = s.link.reply ∧ t.port = s.port.served .desk := by
  have effect := effectOnly_itemClaim (s.takeFrom .desk) k i src o
  generalize ((s.takeFrom .desk).itemClaim k i src o).1 = u at effect ⊢
  have frame := drivenAfter_frame k u
  generalize drivenAfter k u = t at frame ⊢
  rw [frame, effect]
  exact ⟨rfl, rfl, rfl⟩

theorem claimResult_eq (s t : State) (k : ItemKind) (i : Item) (code : Code) : s.claimResult t k i code =
    { code := code, atGate := s.atGate i, alarmOpen := t.alarmOpen i, entry := if k = .query then s.findEntry i else none } := by
  cases k <;> rfl

theorem batchClaim_desk (s : State) (k : BatchKind) (requester : Source) (e : Entry) :
    (s.batchClaim k requester e).1.desk = s.desk := by
  have effect := effectOnly_batchClaim s k requester e
  generalize (s.batchClaim k requester e).1 = t at effect ⊢
  rw [effect]

end State

end Sys2Proof.Machine

namespace Sys2Proof.Proofs

open Sys2Proof Sys2Proof.Machine Sys2Proof.Machine.State

/-- Settles O53: the state after RESTART is known but for its lanes and arbiters by a frame, each lane and arbiter by a lemma, and
an orphaned claim has the effect of a claim in work without its answer. -/
theorem restartRestartsEveryBlock : Obligations.RestartRestartsEveryBlock := by
  unfold Obligations.RestartRestartsEveryBlock
  refine ⟨fun s kind taken => ⟨s.afterRestart kind, exec_restart taken, ?_⟩, fun s k c i src o command next => ?items,
    fun s k c requester selected batch cursor command next orphan => ?batches⟩
  case items =>
    obtain rfl : c = claimCommand k := by
      simp only [List.mem_cons, Prod.mk.injEq, List.not_mem_nil, or_false] at command
      rcases command with ⟨rfl, rfl⟩ | ⟨rfl, rfl⟩ | ⟨rfl, rfl⟩ | ⟨rfl, rfl⟩ | ⟨rfl, rfl⟩ | ⟨rfl, rfl⟩ <;> rfl
    refine ⟨fun orphan => ?_, fun owned options rest rs work => ?_⟩
    · obtain ⟨desk, reply, port⟩ := itemClaim_desk_port s k i src o
      refine ⟨?_, desk, reply, congrArg TablePort.desk port, congrArg TablePort.deskOrphan port,
        congrArg TablePort.deskDeferred port⟩
      rw [exec_claimCommand, takeItemClaim_of_orphan next orphan]
    · rw [exec_claimCommand, takeItemClaim_of_work next (fun _ => owned) work rfl Prod.mk.eta.symm, claimResult_eq]
  case batches =>
    have ran : exec c s = .next (s.takeBatchClaim k) := by
      simp only [List.mem_cons, Prod.mk.injEq, List.not_mem_nil, or_false] at command
      rcases command with ⟨rfl, rfl⟩ | ⟨rfl, rfl⟩ <;> rfl
    refine ⟨rfl, rfl, rfl, rfl, fun none => ?_, fun e selects => ⟨?_, batchClaim_desk _ k requester e⟩⟩
    · rw [ran, takeBatchClaim_of_orphan_none next orphan none]
    · rw [ran, takeBatchClaim_of_orphan_some next orphan selects]
  obtain ⟨answer, dead, frame⟩ := s.afterRestart_frame kind
  have carried := carried_carryOutDesk s
  have standing := congrArg State.standing frame
  have port := congrArg State.port frame
  have judge := congrArg State.judge frame
  have log := congrArg State.log frame
  have desk := congrArg State.desk frame
  have link := congrArg State.link frame
  have table := congrArg State.table frame
  have hallTime := congrArg State.hallTime frame
  have hall := congrArg State.hall frame
  have windows := congrArg State.windows frame
  have rights := congrArg State.rights frame
  have ⟨address, abandoned⟩ := softRestart_address_abandoned s.carryOutDesk.desk
  have time := s.carryOutDesk_hallTime
  refine ⟨?standing, ?started, s.lane_afterRestart_kept kind, fun noneTaken => ?_, ?ignoring, ?abandoned, ?address, ?_⟩
  case standing =>
    intro d
    rw [standing]
    exact Vector.getElem_replicate ..
  case started =>
    intro l enabled
    obtain ⟨lamp, lane⟩ := s.lane_afterRestart_of_enabled kind l enabled
    refine ⟨congrArg Lane.state lane, congrArg Lane.flight lane, congrArg Lane.ask lane, congrArg Lane.buffer lane,
      congrArg Lane.probes lane, congrArg Lane.passages lane, congrArg Lane.reports lane, congrArg Lane.results lane,
      congrArg Lane.verdicts lane, congrArg Lane.toJudge lane, fun h => ?_⟩
    rw [head_afterRestart_of_enabled enabled, HeadUnit.restart_eq]
    exact ⟨rfl, rfl, rfl⟩
  case ignoring =>
    intro busy
    rw [desk]
    exact softRestart_of_busy (carried.busy busy) carried.address carried.abandoned
  case abandoned => rw [desk]; exact abandoned.trans carried.abandoned
  case address => rw [desk]; exact address.trans carried.address
  · have still := carryOutDesk_of_not_taken noneTaken
    refine ⟨?disabled, ?heads, ?arbiters, ?counts, ?log, ?idle⟩
    case disabled =>
      intro l disabled
      obtain ⟨lamp, lane⟩ := s.lane_afterRestart_of_disabled kind l still disabled
      rw [lane]
      exact disabled
    case heads =>
      intro l h
      by_cases disabled : (s.lane l).state = .disabled
      · rw [head_afterRestart_of_disabled still disabled]
        exact ⟨fun enabled => absurd disabled enabled, rfl, rfl, rfl, rfl, rfl⟩
      · rw [head_afterRestart_of_enabled disabled, HeadUnit.restart_eq, still]
        exact ⟨fun _ => ⟨rfl, rfl⟩, rfl, rfl, rfl, rfl, rfl⟩
    case arbiters => exact fun sound g => arbiter_afterRestart_of_sound kind still sound g
    case counts =>
      intro l
      by_cases disabled : (s.lane l).state = .disabled
      · obtain ⟨lamp, lane⟩ := s.lane_afterRestart_of_disabled kind l still disabled
        exact (congrArg Lane.counts lane).trans (if_pos disabled).symm
      · exact (counts_afterRestart_of_enabled still disabled kind).trans (if_neg disabled).symm
    case log => rw [log, still, silenceRecords_log]
    case idle =>
      intro idle
      rw [desk, still, DeskPort.softRestart, idle]
  · refine ⟨by rw [link]; rfl, by rw [link]; rfl, by rw [link]; rfl, by rw [port], by rw [port], by rw [port], by rw [judge],
      by rw [judge], by rw [port], ?answer, by rw [judge], by rw [port], by rw [port], by rw [port], ?numbers, ?ends,
      by rw [link]; rfl, by rw [link]; rfl, by rw [link]; rfl, table, hallTime, hall, windows, rights⟩
    case answer => rw [judge]; exact dead
    case numbers => rw [log]; exact s.carryOutDesk.silenceRecords_numbers.trans carried.numbers
    case ends =>
      rw [log, ← time]
      exact fun r mem opened => s.carryOutDesk.soundingEnd_of_silenceRecords mem opened

end Sys2Proof.Proofs

/-! # Requests on the table: the checks of their items, their replies, and the claims that remove, read and work a series -/

namespace Sys2Proof.Machine

/-! ## The order of checks of one item (03 R46) -/

theorem Right.issues_eq_false_iff (r : Right) : r.issues = false ↔ r = .none ∨ r = .discharge := by
  cases r <;> simp [issues]

theorem Right.issues_eq_true_iff (r : Right) : r.issues = true ↔ r = .issue ∨ r = .both := by
  cases r <;> simp [issues]

theorem Right.discharges_eq_false_iff (r : Right) : r.discharges = false ↔ r = .none ∨ r = .issue := by
  cases r <;> simp [discharges]

namespace State

/-- Source 0 holds every right, and CANCEL and QUERY need none. -/
theorem rightAllows_eq_false_iff (s : State) (k : ItemKind) (src : Source) (c : Column) :
    s.rightAllows k src c = false ↔ ∃ d : DeskId, src = .desk d
      ∧ ((k = .hold ∨ k = .issue ∨ k = .confirm ∨ k = .load) ∧ (s.rights[d][c] = .none ∨ s.rights[d][c] = .discharge)
        ∨ k = .discharge ∧ (s.rights[d][c] = .none ∨ s.rights[d][c] = .issue)) := by
  cases src with
  | link => cases k <;> simp [rightAllows, rightOf, Right.issues, Right.discharges]
  | desk d =>
    cases k <;> simp [rightAllows, rightOf, Right.issues_eq_false_iff, Right.discharges_eq_false_iff]

theorem inStanding_eq_false_iff (s : State) (src : Source) :
    s.inStanding src = false ↔ ∃ d : DeskId, src = .desk d ∧ s.standing[d] = none := by
  cases src <;> simp [inStanding]

end State

/-! ## An item request works its items (03 R44 to R46) -/

/-- A LOAD item's claim carries the item's own allowance and lanes; every other, the options of its request. -/
theorem RawItem.options_eq (x : RawItem) (k : ItemKind) (o : ClaimOptions) : x.options k o =
    if k = .load then { batch := none, lanes := absentLanes x.lanes, allowance := absentZero x.allowance } else o := by
  cases k <;> rfl

namespace State

section
variable {s : State} {p : PortId} {src : Source} {kind : Byte} {k : ItemKind}

/-- A taken item request begins. -/
theorem exec_items {o : RawOptions} {xs : List RawItem} (taken : s.workOf p = .taken src kind (.items k o xs))
    (host : k = .load → p = .link) :
    exec ((Request.items k o xs).command p) s = .next (s.beginItems p k src o xs) := by
  cases k
  case load =>
    obtain rfl := host rfl
    exact congrArg Host.Outcome.next (serve_of_taken taken _)
  all_goals exact congrArg Host.Outcome.next (serve_of_taken taken _)

theorem beginItems_of_options {o : RawOptions} (inRange : o.allowance ≤ 240) (xs : List RawItem) :
    s.beginItems p k src o xs = s.workItems p k src
      { batch := absentZero o.batch, lanes := absentLanes o.lanes, allowance := absentZero o.allowance } xs [] := by
  simp [beginItems, RawOptions.tested, inRange]

theorem beginItems_of_bad_options {o : RawOptions} (outOfRange : 240 < o.allowance) (xs : List RawItem) :
    s.beginItems p k src o xs = s.replyOn p k.number (itemsReply k (xs.map fun _ => refusal .badValue)) := by
  simp [beginItems, RawOptions.tested, Nat.not_le.2 outOfRange]

variable {o : ClaimOptions}

theorem workItems_of_refused {x : RawItem} {c : Code} (refused : s.checkItem k src x = .error c) (xs : List RawItem)
    (rs : List ItemResult) : s.workItems p k src o (x :: xs) rs = s.workItems p k src o xs (rs ++ [refusal c]) := by
  simp only [workItems, refused]

theorem workItems_of_passed {x : RawItem} {n : Normal} (passed : s.checkItem k src x = .ok n) (xs : List RawItem)
    (rs : List ItemResult) : s.workItems p k src o (x :: xs) rs =
      (s.offerClaim p (.item k n.item src (x.options k o))).setWork p (.items k src o xs rs) := by
  simp only [workItems, passed]

/-- Items that their checks refuse have their codes as results, in order, and the items after them are worked. -/
theorem workItems_append_of_refused {xs : List RawItem} {cs : List Code}
    (refused : xs.map (s.checkItem k src) = cs.map Except.error) (rest : List RawItem) (rs : List ItemResult) :
    s.workItems p k src o (xs ++ rest) rs = s.workItems p k src o rest (rs ++ cs.map refusal) := by
  induction xs generalizing cs rs with
  | nil =>
    obtain rfl : cs = [] := by simpa [eq_comm] using refused
    simp
  | cons x xs ih =>
    cases cs with
    | nil => cases refused
    | cons c cs =>
      obtain ⟨first, others⟩ := List.cons.inj refused
      rw [List.cons_append, workItems_of_refused first, ih others, List.map_cons, List.append_assoc, List.singleton_append]

end

/-- The port that has taken a request has no reply already formed. -/
theorem replyFormed_of_taken {s : State} {p : PortId} {src : Source} {kind : Byte} {r : Request}
    (taken : s.workOf p = .taken src kind r) : s.replyFormed p = false := by
  cases p with
  | link => rfl
  | desk =>
    have work : s.desk.work = .taken src kind r := taken
    simp [replyFormed, DeskPort.replyFormed, work]

/-- A request that is refused whole is answered BAD_REQUEST. -/
theorem exec_badRequest_of_taken {s : State} {p : PortId} {src : Source} {kind : Byte}
    (taken : s.workOf p = .taken src kind .bad) :
    exec (.badRequest p) s = .next (s.replyOn p kind (codeReply .badRequest)) := by
  have ran : exec (.badRequest p) s = .next (if s.replyFormed p then s.replyOn p 0 s.desk.reply else s.serveBad p) := rfl
  rw [ran, replyFormed_of_taken taken, serveBad, serve_of_taken taken]
  rfl

end State

/-! ## The reply of an item request (03 R57, R58, 11 R198) -/

/-- The bytes of each item's code and flags, and after them those of the entries that a QUERY found. -/
def resultBytes (rs : List ItemResult) : List Byte :=
  rs.flatMap (fun r => [r.code.number, r.flags]) ++ rs.flatMap fun r => (r.entry.map Entry.bytes).getD []

theorem itemsReply_tail (k : ItemKind) (rs : List ItemResult) : (itemsReply k rs).tail = resultBytes rs := by
  refine congrArg (rs.flatMap (fun r => [r.code.number, r.flags]) ++ rs.flatMap ·) (funext fun r => ?_)
  cases r.entry <;> rfl

/-- A request of one item that is no LOAD is answered with the item's own code. -/
theorem itemsReply_of_single {k : ItemKind} (other : k ≠ .load) (r : ItemResult) :
    itemsReply k [r] = r.code.number :: resultBytes [r] := by
  rw [← itemsReply_tail k]
  cases k
  case load => exact absurd rfl other
  all_goals rfl

/-- A LOAD, and a request of any number of items but one, is answered with DONE. -/
theorem itemsReply_of_several {k : ItemKind} {rs : List ItemResult} (several : k = .load ∨ rs.length ≠ 1) :
    itemsReply k rs = 1 :: resultBytes rs := by
  rw [← itemsReply_tail k]
  rcases several with rfl | several
  · rfl
  · match rs, several with
    | [], _ => cases k <;> rfl
    | [_], single => exact absurd rfl single
    | _ :: _ :: _, _ => cases k <;> rfl

theorem JudgementStage.held_iff (st : JudgementStage) :
    st.held = true ↔ st = .heldAbsent ∨ st = .heldPending ∨ st = .verifying := by
  cases st <;> simp [held]

theorem AlarmState.standsOpen_iff (st : AlarmState) : st.standsOpen = true ↔ st = .opened ∨ st = .acknowledged := by
  cases st <;> simp [standsOpen]

namespace State

theorem atGate_iff (s : State) (i : Item) : s.atGate i = true ↔ ∃ j ∈ s.judge.entries, j.item = i
    ∧ (j.stage = .heldAbsent ∨ j.stage = .heldPending ∨ j.stage = .verifying) := by
  simp only [atGate, List.any_eq_true, Bool.and_eq_true, beq_iff_eq, JudgementStage.held_iff]

theorem alarmOpen_iff (s : State) (i : Item) : s.alarmOpen i = true ↔ ∃ r ∈ s.log.records, r.item = i
    ∧ (r.state = .opened ∨ r.state = .acknowledged) := by
  simp only [alarmOpen, List.any_eq_true, Bool.and_eq_true, beq_iff_eq, AlarmState.standsOpen_iff]

/-! ## CANCEL, DISCHARGE and QUERY (03 R51 to R53) -/

section
variable {s : State} {i : Item} {src : Source} {e : Entry}

theorem cancelClaim_of_absent (absent : s.findEntry i = none) : s.cancelClaim i src = (s, .noEntry) := by
  simp only [cancelClaim, absent]

theorem cancelClaim_of_own (found : s.findEntry i = some e) (pending : e.stage = .pending)
    (own : src = .link ∨ src = e.source) : s.cancelClaim i src = (s.cancelEntry e, .done) := by
  simp only [cancelClaim, found, pending, (owns_iff src e).2 own, if_true]

theorem cancelClaim_of_other (found : s.findEntry i = some e) (pending : e.stage = .pending)
    (other : ¬ (src = .link ∨ src = e.source)) : s.cancelClaim i src = (s, .notOwner) := by
  simp only [cancelClaim, found, pending, if_neg (mt (owns_iff src e).1 other)]

theorem cancelClaim_of_cleared (found : s.findEntry i = some e) (stage : e.stage ≠ .pending) :
    s.cancelClaim i src = (s, .alreadyCleared) := by
  rw [cancelClaim, found]
  dsimp only
  split
  next pending => exact absurd pending stage
  all_goals rfl

theorem dischargeClaim_of_absent (absent : s.findEntry i = none) : s.dischargeClaim i = (s, .noEntry) := by
  simp only [dischargeClaim, absent]

theorem dischargeClaim_of_pending (found : s.findEntry i = some e) (pending : e.stage = .pending) :
    s.dischargeClaim i = (s, .heldElsewhere) := by
  simp only [dischargeClaim, found, pending]

theorem dischargeClaim_of_cleared (found : s.findEntry i = some e) (stage : e.stage ≠ .pending) :
    s.dischargeClaim i = (s.dropEntry i, .done) := by
  rw [dischargeClaim, found]
  dsimp only
  split
  next pending => exact absurd pending stage
  all_goals rfl

theorem queryClaim_of_absent (absent : s.findEntry i = none) : s.queryClaim i = (s, .noEntry) := by
  simp [queryClaim, absent]

theorem queryClaim_of_found (found : s.findEntry i = some e) : s.queryClaim i = (s, .done) := by
  simp [queryClaim, found]

end

/-- A claim of a kind that settles no alarm, in work: its step drives no output. -/
theorem exec_claim_of_work {s t u : State} {p : PortId} {k : ItemKind} {i : Item} {src : Source} {o o' : ClaimOptions}
    {rest : List RawItem} {rs : List ItemResult} {code : Code} (kind : ¬ (k = .issue ∨ k = .confirm))
    (next : s.port.nextRequest = some (p, .item k i src o)) (owned : p = .desk → s.port.deskOrphan = false)
    (work : s.workOf p = .items k src o' rest rs) (taken : s.takeFrom p = u) (claim : u.itemClaim k i src o = (t, code)) :
    exec (claimCommand k) s = .next (t.workItems p k src o' rest
      (rs ++ [{ code := code, atGate := s.atGate i, alarmOpen := t.alarmOpen i,
                entry := if k = .query then s.findEntry i else none }])) := by
  rw [exec_claimCommand, if_neg kind, takeItemClaim_of_work next owned work taken claim, claimResult_eq]

end State

/-! ## Batch series (03 R59 to R61) -/

/-- In a list that rises by item the first entry that meets a test is the one with the lowest item. -/
theorem find?_eq_some_of_lowest {es : List Entry} {test : Entry → Bool} {e : Entry} (rising : Rising es) (mem : e ∈ es)
    (ok : test e = true) (lowest : ∀ x ∈ es, test x = true → e.item ≤ x.item) : es.find? test = some e := by
  obtain ⟨before, after, rfl⟩ := List.append_of_mem mem
  rw [List.find?_eq_some_iff_append]
  refine ⟨ok, before, after, rfl, fun x hx => ?_⟩
  have below : x.item < e.item := (List.pairwise_append.1 rising).2.2 x hx e List.mem_cons_self
  rw [Bool.not_eq_true', ← Bool.not_eq_true]
  exact fun meets => Nat.not_le.2 below (lowest x (List.mem_append_left _ hx) meets)

namespace State

section
variable {s : State} {sel : Source} {b : Nat} {cursor : Item}

/-- The entries that a series has still to work. -/
theorem batch_selects_iff (sel : Source) (b : Nat) (cursor : Item) (e : Entry) :
    (decide (cursor < e.item) && e.stage == .pending && e.source == sel && e.batch == some b) = true ↔
      cursor < e.item ∧ e.stage = .pending ∧ e.source = sel ∧ e.batch = some b := by
  simp only [Bool.and_eq_true, decide_eq_true_eq, beq_iff_eq, and_assoc]

theorem batchEntry_eq_none
    (none : ∀ e ∈ s.table.entries, ¬ (cursor < e.item ∧ e.stage = .pending ∧ e.source = sel ∧ e.batch = some b)) :
    s.batchEntry sel b cursor = Option.none :=
  List.find?_eq_none.2 fun e mem => mt (batch_selects_iff sel b cursor e).1 (none e mem)

theorem batchEntry_eq_some {e : Entry} (ordered : s.tableOrdered) (mem : e ∈ s.table.entries)
    (selected : cursor < e.item ∧ e.stage = .pending ∧ e.source = sel ∧ e.batch = some b)
    (lowest : ∀ x ∈ s.table.entries, cursor < x.item ∧ x.stage = .pending ∧ x.source = sel ∧ x.batch = some b →
      e.item ≤ x.item) : s.batchEntry sel b cursor = some e :=
  find?_eq_some_of_lowest ordered mem ((batch_selects_iff ..).2 selected)
    fun x hx meets => lowest x hx ((batch_selects_iff ..).1 meets)

end

section
variable {s t u : State} {p : PortId} {k : BatchKind} {requester sel : Source} {b : Nat} {cursor : Item} {count : Nat}

/-- The answer of a claim that no soft restart orphaned reaches its request. -/
theorem answered_of_owned (owned : p = .desk → s.port.deskOrphan = false) : s.answered p = true := by
  cases p with
  | desk => simp [answered, owned rfl]
  | link => rfl

/-- A claim of a series in work that selects no entry: the reply carries the count. -/
theorem takeBatchClaim_of_none (next : s.port.nextRequest = some (p, .batch k requester sel b cursor))
    (owned : p = .desk → s.port.deskOrphan = false) (work : s.workOf p = .batch k count) (taken : s.takeFrom p = u)
    (none : u.batchEntry sel b cursor = none) : s.takeBatchClaim k = u.replyOn p k.number (countReply count) := by
  subst taken
  have still : (s.takeFrom p).workOf p = .batch k count := work ▸ by cases p <;> rfl
  unfold takeBatchClaim
  simp only [next, answered_of_owned owned, none, still, if_true]

/-- A claim of a series in work that selects an entry: its effect, and the series goes on. -/
theorem takeBatchClaim_of_some {e : Entry} {acted : Bool}
    (next : s.port.nextRequest = some (p, .batch k requester sel b cursor))
    (owned : p = .desk → s.port.deskOrphan = false) (work : s.workOf p = .batch k count) (taken : s.takeFrom p = u)
    (selects : u.batchEntry sel b cursor = some e) (effect : u.batchClaim k requester e = (t, acted)) :
    s.takeBatchClaim k = t.continueBatch p k (.batch k requester sel b e.item) (if acted then count + 1 else count) := by
  subst taken
  have still : t.workOf p = .batch k count := by
    have only := effectOnly_batchClaim (s.takeFrom p) k requester e
    rw [effect] at only
    rw [only.workOf, ← work]
    cases p <;> rfl
  unfold takeBatchClaim
  simp only [next, effect, answered_of_owned owned, selects, still, if_true]

end

theorem batchClaim_of_allowed {s : State} {requester : Source} {e : Entry} (allowed : s.batchAllows requester e = true) :
    s.batchClaim .confirm requester e = (s.confirmEntry e none, true) := by
  simp only [batchClaim, allowed, if_true]

theorem batchClaim_of_refused {s : State} {requester : Source} {e : Entry} (refused : s.batchAllows requester e = false) :
    s.batchClaim .confirm requester e = (s, false) := by
  simp [batchClaim, refused]

theorem batchAllows_link (s : State) (e : Entry) : s.batchAllows .link e = true := by
  simp [batchAllows, rightOf, Right.issues, inStanding]

theorem batchAllows_desk_iff (s : State) (d : DeskId) (e : Entry) : s.batchAllows (.desk d) e = true ↔
    (s.rights[d][(s.keyLookup e.item).2] = .issue ∨ s.rights[d][(s.keyLookup e.item).2] = .both)
      ∧ ((s.keyLookup e.item).1 = .restricted → s.standing[d] ≠ none) := by
  have standing : s.inStanding (.desk d) = true ↔ s.standing[d] ≠ none := Option.isSome_iff_ne_none
  rw [batchAllows, Bool.and_eq_true, Bool.or_eq_true, bne_iff_ne, standing, rightOf, Right.issues_eq_true_iff,
    ← imp_iff_not_or]

end State

end Sys2Proof.Machine

namespace Sys2Proof.Proofs

open Sys2Proof Sys2Proof.Machine Sys2Proof.Machine.State

/-- Settles O8: each check in the terms of the statement, and the item's checks tried in their order. -/
theorem itemChecksRefuseInOrder : Obligations.ItemChecksRefuseInOrder := by
  unfold Obligations.ItemChecksRefuseInOrder
  intro s k src x n badRange badLoad reference notStock noRight noStanding
  have range : (!validItem x.item) = true ↔ badRange := by
    rw [Bool.not_eq_true', ← Bool.not_eq_true, validItem_iff]
  have load : (k == .load && (x.allowance == 0 || decide (240 < x.allowance))) = true ↔ badLoad := by
    simp only [Bool.and_eq_true, Bool.or_eq_true, beq_iff_eq, decide_eq_true_eq, badLoad]
  have ref : ((k == .hold || k == .issue || k == .confirm || k == .load) && n.cls == .reference) = true ↔ reference := by
    simp only [Bool.and_eq_true, Bool.or_eq_true, beq_iff_eq, or_assoc, reference]
  have stock : ((k == .hold || k == .issue || k == .load) && (n.cls == .exempt || n.cls == .staff)) = true ↔ notStock := by
    simp only [Bool.and_eq_true, Bool.or_eq_true, beq_iff_eq, or_assoc, notStock]
  have right : (!s.rightAllows k src n.column) = true ↔ noRight := by
    rw [Bool.not_eq_true', rightAllows_eq_false_iff]
  have standing : ((k == .hold || k == .issue || k == .confirm) && n.cls == .restricted && !s.inStanding src) = true
      ↔ noStanding := by
    simp only [Bool.and_eq_true, Bool.or_eq_true, beq_iff_eq, Bool.not_eq_true', inStanding_eq_false_iff, or_assoc,
      and_assoc, noStanding]
  have notReference : notStock → ¬ reference := by
    rintro ⟨-, cls⟩ ⟨-, same⟩
    rw [same] at cls
    exact cls.elim nofun nofun
  rw [checkItem]
  refine ⟨fun refused => if_pos (range.2 refused), fun inRange refused => ?badLoad, fun inRange noBadLoad refused => ?reference,
    fun inRange noBadLoad refused => ?notStock, fun inRange noBadLoad noReference isStock refused => ?noRight,
    fun inRange noBadLoad noReference isStock entitled refused => ?noStanding,
    fun inRange noBadLoad noReference isStock entitled stands => ?passes⟩
  all_goals rw [if_neg (mt range.1 inRange)]
  case badLoad => exact if_pos (load.2 refused)
  all_goals rw [if_neg (mt load.1 noBadLoad)]
  case reference => exact if_pos (ref.2 refused)
  case notStock => exact (if_neg (mt ref.1 (notReference refused))).trans (if_pos (stock.2 refused))
  all_goals refine (if_neg (mt ref.1 noReference)).trans ((if_neg (mt stock.1 isStock)).trans ?_)
  case noRight => exact if_pos (right.2 refused)
  all_goals refine (if_neg (mt right.1 entitled)).trans ?_
  case noStanding => exact if_pos (standing.2 refused)
  case passes => exact if_neg (mt standing.1 stands)

/-- Settles O14: the refused items have their results, and the first item that passes offers its claim at its port. -/
theorem itemRequestsOfferTheirFirstClaim : Obligations.ItemRequestsOfferTheirFirstClaim := by
  unfold Obligations.ItemRequestsOfferTheirFirstClaim
  intro s p src kind k o refused x rest n taken inRange codes passed host request results options own claim work
  have codes' : (refused.map Prod.fst).map (s.checkItem k src) = (refused.map Prod.snd).map Except.error := by
    simpa using codes
  have ran : exec (request.command p) s = .next ((s.offerClaim p claim).setWork p work) := by
    rw [exec_items taken host, beginItems_of_options inRange, workItems_append_of_refused codes', workItems_of_passed passed,
      List.nil_append, List.map_map, RawItem.options_eq]
    rfl
  refine ⟨?link, ?free, ?waits⟩
  case link =>
    rintro rfl
    exact ran
  case free =>
    rintro rfl free
    rw [ran, offerClaim, free]
    rfl
  case waits =>
    rintro rfl orphaned
    rw [ran, offerClaim, if_pos (Option.isSome_iff_ne_none.2 orphaned)]
    rfl

/-- Settles O15: a request that comes to no claim comes to its reply alone. -/
theorem refusedRequestsMakeNoClaim : Obligations.RefusedRequestsMakeNoClaim := by
  unfold Obligations.RefusedRequestsMakeNoClaim
  refine ⟨fun s p src kind k o xs taken host => ⟨fun outOfRange => ?options, fun cs inRange refused => ?items⟩,
    fun s p src kind taken => exec_badRequest_of_taken taken⟩
  case options =>
    rw [exec_items taken host, beginItems_of_bad_options outOfRange]
    rfl
  case items =>
    have all := workItems_append_of_refused (p := p)
      (o := { batch := absentZero o.batch, lanes := absentLanes o.lanes, allowance := absentZero o.allowance }) refused [] []
    rw [List.append_nil] at all
    rw [exec_items taken host, beginItems_of_options inRange, all]
    rfl

/-- Settles O19: the items in order, the bytes of a reply and of its parts, and what the two flags stand for. -/
theorem itemsAreWorkedInOrderAndRepliesFormedWhole : Obligations.ItemsAreWorkedInOrderAndRepliesFormedWhole := by
  unfold Obligations.ItemsAreWorkedInOrderAndRepliesFormedWhole
  refine ⟨fun s p k src o rs => ⟨rfl, fun x xs c refused => workItems_of_refused refused xs rs,
    fun x xs n passed => workItems_of_passed passed xs rs⟩, fun s kind bytes => ⟨rfl, rfl⟩,
    fun k rs => ⟨?single, ?several⟩, rfl, fun c n => ⟨rfl, rfl⟩, fun s i => ⟨s.atGate_iff i, s.alarmOpen_iff i⟩, fun e => ?entry⟩
  case single =>
    rintro r rfl other
    exact itemsReply_of_single other r
  case several => exact itemsReply_of_several
  case entry =>
    rcases e with ⟨_, _ | _ | _, _, _, _, _, _, _, _, _ | _⟩ <;> rfl

/-- Settles O23: a CANCEL takes out the PENDING entry of its own source, or of any for the host, and nothing more. -/
theorem cancelClaimOutcomes : Obligations.CancelClaimOutcomes := by
  unfold Obligations.CancelClaimOutcomes
  intro s p i src o o' rest rs next owned work
  obtain ⟨q, hu⟩ := s.takeFrom_eq p
  rw [hu]
  let u := s.setPort q
  have answers {t : State} {c : Code} (claim : u.cancelClaim i src = (t, c)) :=
    exec_claim_of_work (k := .cancel) nofun next owned work hu claim
  refine ⟨fun absent => answers (cancelClaim_of_absent (s := u) absent), fun e found => ?_⟩
  obtain rfl := findEntry_item found
  exact ⟨fun pending other => answers (cancelClaim_of_other (s := u) found pending other),
    fun pending own => answers (cancelClaim_of_own (s := u) found pending own),
    fun stage => answers (cancelClaim_of_cleared (s := u) found stage)⟩

/-- Settles O24: a DISCHARGE takes out an entry that is not PENDING; a QUERY gives the entry it finds and leaves it. -/
theorem dischargeAndQueryClaimOutcomes : Obligations.DischargeAndQueryClaimOutcomes := by
  unfold Obligations.DischargeAndQueryClaimOutcomes
  intro s p k i src o o' rest rs next owned work
  obtain ⟨q, hu⟩ := s.takeFrom_eq p
  rw [hu]
  let u := s.setPort q
  constructor
  · rintro rfl
    have answers {t : State} {c : Code} (claim : u.dischargeClaim i = (t, c)) :=
      exec_claim_of_work (k := .discharge) nofun next owned work hu claim
    exact ⟨fun absent => answers (dischargeClaim_of_absent (s := u) absent), fun e found =>
      ⟨fun pending => answers (dischargeClaim_of_pending (s := u) found pending),
        fun stage => answers (dischargeClaim_of_cleared (s := u) found stage)⟩⟩
  · rintro rfl
    have answers {t : State} {c : Code} (claim : u.queryClaim i = (t, c)) :=
      exec_claim_of_work (k := .query) nofun next owned work hu claim
    refine ⟨fun absent => ?absent, fun e found => ?found⟩
    case absent =>
      have ran := answers (queryClaim_of_absent (s := u) absent)
      rwa [if_pos rfl, absent] at ran
    case found =>
      have ran := answers (queryClaim_of_found (s := u) found)
      rwa [if_pos rfl, found] at ran

/-- Settles O27: the entry that a claim of the series selects is the first of an ordered table, and what the claim makes of it. -/
theorem batchClaimsWorkTheSeries : Obligations.BatchClaimsWorkTheSeries := by
  unfold Obligations.BatchClaimsWorkTheSeries
  refine ⟨fun s p k c requester sel b cursor count command next owned work ordered => ?claims,
    fun s e => ⟨s.batchAllows_link e, fun d => s.batchAllows_desk_iff d e⟩⟩
  have ran : exec c s = .next (s.takeBatchClaim k) := by
    rcases command with ⟨rfl, rfl⟩ | ⟨rfl, rfl⟩ <;> rfl
  obtain ⟨q, hu⟩ := s.takeFrom_eq p
  rw [hu]
  let u := s.setPort q
  refine ⟨fun none => ?ends, fun e mem selected lowest => ?works⟩
  case ends => exact ran.trans (congrArg _ (takeBatchClaim_of_none next owned work hu (batchEntry_eq_none (s := u) none)))
  have selects : u.batchEntry sel b cursor = some e := batchEntry_eq_some (s := u) ordered mem selected lowest
  have goesOn {t : State} {acted : Bool} (effect : u.batchClaim k requester e = (t, acted)) :=
    ran.trans (congrArg Host.Outcome.next (takeBatchClaim_of_some next owned work hu selects effect))
  refine ⟨?cancel, ?confirm, ?refused⟩
  case cancel =>
    rintro rfl
    exact goesOn rfl
  case confirm =>
    rintro rfl allowed
    exact goesOn (batchClaim_of_allowed (s := u) allowed)
  case refused =>
    rintro rfl refused
    exact goesOn (batchClaim_of_refused (s := u) refused)

end Sys2Proof.Proofs

/-! # Lanes at work

What each operation of a sweeper and an arbiter makes of the whole state, as one lane and one arbiter written: one equation for
each operation, which the statements about heads and lanes cite. -/

namespace Sys2Proof.Machine

/-! ## The work of a lane, and what it leaves of the lane -/

namespace Lane

variable (now : Time) (x : Lane)

theorem breakCycle_eq :
    x.breakCycle = { x with buffer := if x.settings.halfCycle = .continue then x.buffer else none } := by
  unfold breakCycle
  split
  next policy => simp [policy]
  next policy => simp [policy]

theorem roundStarted_of_empty (empty : x.buffer = none) : x.roundStarted now = x.newCycle now := by
  unfold roundStarted
  rw [empty]

theorem roundStarted_of_outer {half : Half} (buffered : x.buffer = some half) (works : x.outer.working = true) :
    x.roundStarted now = { x.commanded now (.single .outer) fun q => .round q x.settings.roundTime with
      flight := .rounds .alternate none none } := by
  unfold roundStarted
  rw [buffered]
  exact if_pos works

/-- A buffered half whose outer head does not work is delivered with a lossy outer half, and a new cycle begins. -/
theorem roundStarted_of_faulted {half : Half} (buffered : x.buffer = some half) (fails : x.outer.working = false) :
    x.roundStarted now = newCycle now { x with
      buffer := none
      counts := { x.counts with cycles := x.counts.cycles + 1, lossyRounds := x.counts.lossyRounds + 1 }
      reports := x.reports ++ [{ form := .alternate, inner := some half, outer :=
        (some { head := .outer, codes := [], lossy := true, endTime := now }) }] } := by
  unfold roundStarted
  rw [buffered]
  exact if_neg (by simp [fails])

theorem begun_of_empty (empty : x.probes = []) : x.begun now = x.roundStarted now := by
  unfold begun
  rw [empty]

theorem begun_of_queue {e : ProbeEntry} {queue : List ProbeEntry} (queued : x.probes = e :: queue) :
    x.begun now = if x.flight = .nothing ∧ x.abortWaits = false then
        { x.commanded now x.nextForm fun q => .probe q e.code with flight := .probe x.nextForm false }
      else x := by
  unfold begun
  rw [queued]
  simp only [← abortWaits_iff, Bool.not_eq_true]

/-- With nothing in flight and no ABORT owed by a working head, the front probe starts. -/
theorem begun_of_probe {e : ProbeEntry} {queue : List ProbeEntry} (queued : x.probes = e :: queue) (idle : x.flight = .nothing)
    (clear : x.abortWaits = false) :
    x.begun now = { x.commanded now x.nextForm fun q => .probe q e.code with flight := .probe x.nextForm false } := by
  rw [begun_of_queue now x queued, if_pos ⟨idle, clear⟩]

theorem abortWaits_of_head {x : Lane} {h : HeadPos} (works : (x.head h).working = true) (owes : (x.head h).abortOwed = true) :
    x.abortWaits = true := by
  rw [abortWaits_iff]
  cases h with
  | inner => exact .inl ⟨works, owes⟩
  | outer => exact .inr ⟨works, owes⟩

/-- While a working head owes an ABORT, a queued probe waits. -/
theorem begun_of_waiting (queued : x.probes ≠ []) (waits : x.abortWaits = true) : x.begun now = x := by
  obtain ⟨e, queue, front⟩ := List.exists_cons_of_ne_nil queued
  rw [begun_of_queue now x front, if_neg (by simp [waits])]

/-- A lane begins its work by its round start, by a probe, or with a wait for an ABORT. -/
theorem begun_cases : x.begun now = x.roundStarted now ∨ x.begun now = x
    ∨ ∃ code, x.begun now = { x.commanded now x.nextForm fun q => .probe q code with flight := .probe x.nextForm false } := by
  rcases queue : x.probes with _ | ⟨e, queue⟩
  · exact .inl (begun_of_empty now x queue)
  · rw [begun_of_queue now x queue]
    split
    · exact .inr (.inr ⟨e.code, rfl⟩)
    · exact .inr (.inl rfl)

/-- A lane that begins its work changes its heads, its flight, and where it delivers a buffered half, its buffer, its reports and its
counters. -/
theorem begun_frame : x.begun now = { x with
    inner := (x.begun now).inner, outer := (x.begun now).outer, flight := (x.begun now).flight
    buffer := (x.begun now).buffer, reports := (x.begun now).reports, counts := (x.begun now).counts } := by
  rcases begun_cases now x with rounds | waits | ⟨code, probes⟩
  · rw [rounds]
    unfold roundStarted
    split
    · rfl
    · split <;> rfl
  · rw [waits]
  · rw [probes]
    rfl

/-- A lane whose outer head works, or that has no half buffered, delivers nothing as it begins its work. -/
theorem begun_undelivered (quiet : x.buffer = none ∨ x.outer.working = true) :
    (x.begun now).buffer = x.buffer ∧ (x.begun now).reports = x.reports ∧ (x.begun now).counts = x.counts := by
  rcases queue : x.probes with _ | ⟨e, queue⟩
  · rw [begun_of_empty now x queue]
    rcases buffered : x.buffer with _ | half
    · rw [roundStarted_of_empty now x buffered]
      exact ⟨buffered, rfl, rfl⟩
    · rw [roundStarted_of_outer now x buffered (quiet.resolve_left (by simp [buffered]))]
      exact ⟨buffered, rfl, rfl⟩
  · rw [begun_of_queue now x queue]
    split <;> exact ⟨rfl, rfl, rfl⟩

/-- What leaves both heads of a lane leaves each. -/
theorem head_congr {x y : Lane} (inner : y.inner = x.inner) (outer : y.outer = x.outer) (h : HeadPos) : y.head h = x.head h := by
  cases h
  · exact inner
  · exact outer

theorem head_flown (f : Flight) (h : HeadPos) : ({ x with flight := f } : Lane).head h = x.head h := head_congr rfl rfl h

theorem head_rebuffered (buffer : Option Half) (ask : Bool) (h : HeadPos) :
    ({ x with buffer := buffer, ask := ask } : Lane).head h = x.head h := head_congr rfl rfl h

theorem head_commanded_other (h : HeadPos) (c : BitVec 8 → HeadCommand) :
    (x.commanded now (.single (otherHead h)) c).head h = x.head h := by
  cases h
  · simp [commanded, head, otherHead]
  · simp [commanded, head, otherHead]

theorem probeOut_commanded_round (form : Form) (dwell : Nat) (h : HeadPos) (out : (x.head h).probeOut = false) :
    ((x.commanded now form fun q => .round q dwell).head h).probeOut = false := by
  cases h
  · simp only [commanded, head]
    split
    · exact out
    · rfl
  · simp only [commanded, head]
    split
    · rfl
    · exact out

theorem nextForm_of_single {x : Lane} {h : HeadPos} (state : x.state ≠ .inService) (fails : (x.head h).working = false)
    (works : (x.head (otherHead h)).working = true) : x.nextForm = .single (otherHead h) := by
  unfold nextForm
  rw [if_neg state]
  cases h
  · simp [show x.inner.working = false from fails, otherHead]
  · simp [show x.inner.working = true from works, otherHead]

theorem head_newCycle_of_single {x : Lane} {h : HeadPos} (form : x.nextForm = .single (otherHead h)) :
    (x.newCycle now).head h = x.head h := by
  unfold newCycle
  rw [form]
  exact (head_flown _ _ h).trans (head_commanded_other now x h _)

/-- A lane that works with one head sends nothing to the other. -/
theorem head_begun_of_single {x : Lane} {h : HeadPos} (state : x.state ≠ .inService) (fails : (x.head h).working = false)
    (works : (x.head (otherHead h)).working = true) : (x.begun now).head h = x.head h := by
  have form := nextForm_of_single state fails works
  rcases begun_cases now x with rounds | waits | ⟨code, probes⟩
  · rw [rounds]
    unfold roundStarted
    split
    · exact head_newCycle_of_single now form
    · split
      next outer =>
        cases h with
        | inner => exact (head_flown _ _ _).trans (head_commanded_other now x .inner _)
        | outer => exact absurd (outer.symm.trans fails) (by decide)
      · exact (head_newCycle_of_single now form).trans (head_congr rfl rfl h)
  · rw [waits]
  · rw [probes, form]
    exact (head_flown _ _ h).trans (head_commanded_other now x h _)

theorem probeOut_newCycle (h : HeadPos) (out : (x.head h).probeOut = false) : ((x.newCycle now).head h).probeOut = false := by
  exact (congrArg HeadUnit.probeOut (head_flown _ _ h)).trans (probeOut_commanded_round now x _ _ h out)

/-- A lane with no probe queued sends no PROBE as it begins its work. -/
theorem probeOut_begun {x : Lane} {h : HeadPos} (empty : x.probes = []) (out : (x.head h).probeOut = false) :
    ((x.begun now).head h).probeOut = false := by
  rw [begun_of_empty now x empty]
  unfold roundStarted
  split
  · exact probeOut_newCycle now x h out
  · split
    · exact (congrArg HeadUnit.probeOut (head_flown _ _ h)).trans (probeOut_commanded_round now x _ _ h out)
    · exact probeOut_newCycle now _ h ((congrArg HeadUnit.probeOut (head_congr rfl rfl h)).trans out)

end Lane

/-! ## One lane written -/

namespace State

section
variable (s : State) (l : LaneId) (x y : Lane) (g : GroupId) (a : BandArbiter)

@[simp] theorem setLane_setLane : (s.setLane l x).setLane l y = s.setLane l y := by
  simp [setLane]

@[simp] theorem setLane_lane : s.setLane l (s.lane l) = s := by
  simp [setLane, lane]

theorem setBand_setLane : (s.setLane l x).setBand g a = (s.setBand g a).setLane l x := rfl

@[simp] theorem setBand_setBand (b : BandArbiter) : (s.setBand g a).setBand g b = s.setBand g b := by
  simp [setBand]

@[simp] theorem setBand_arbiter : s.setBand g (s.arbiter g) = s := by
  simp [setBand, arbiter]

theorem lanesOnly_setLane : LanesOnly s (s.setLane l x) := rfl

@[simp] theorem arbiter_setLane (k : GroupId) : (s.setLane l x).arbiter k = s.arbiter k := rfl

@[simp] theorem arbiter_setBand_same : (s.setBand g a).arbiter g = a := by simp [arbiter_setBand]

@[simp] theorem groupOf_setBand (m : LaneId) : (s.setBand g a).groupOf m = s.groupOf m := rfl

@[simp] theorem groupOf_setLane_same : (s.setLane l x).groupOf l = x.settings.bandGroup := by simp [groupOf]

end

section
variable {s t : State} {l : LaneId} {g : GroupId}

/-- One arbiter and one lane written: what each reads, and what stays. -/
theorem written_frame {a : BandArbiter} {v : Lane} (written : t = (s.setBand g a).setLane l v) :
    t.lane l = v ∧ t.arbiter g = a ∧ (∀ m, m ≠ l → t.lane m = s.lane m) ∧ (∀ k, k ≠ g → t.arbiter k = s.arbiter k)
      ∧ LanesOnly s t := by
  subst written
  refine ⟨lane_setLane_same .., arbiter_setBand_same .., fun m other => lane_setLane_other _ _ other, fun k other => ?_, rfl⟩
  rw [arbiter_setLane, arbiter_setBand, if_neg other]

theorem groupOf_congr (same : (t.lane l).settings = (s.lane l).settings) : t.groupOf l = s.groupOf l :=
  congrArg LaneSettings.bandGroup same

theorem holds_of_band (group : s.groupOf l = g) (band : (s.arbiter g).band = .held l) : s.holds l = true := by
  simp [holds, group, band]

theorem not_holds_of_band (group : s.groupOf l = g) (band : (s.arbiter g).band ≠ .held l) : s.holds l = false := by
  simp [holds, group, band]

end

theorem modHead_eq (s : State) (l : LaneId) (h : HeadPos) (f : HeadUnit → HeadUnit) :
    s.modHead l h f = s.setLane l ((s.lane l).setHead h (f ((s.lane l).head h))) := rfl

/-! ## The start of a cycle and of a probe -/

variable {s : State} {l : LaneId}

theorem startCycle_eq (s : State) (l : LaneId) : s.startCycle l = s.setLane l ((s.lane l).newCycle s.hallTime) := by
  have written : s.startCycle l = s.setLane l ((s.startCycle l).lane l) := by
    unfold startCycle
    dsimp only
    split <;> simp [sendTo, modHead, setFlight, modLane]
  rw [written, lane_startCycle]

/-- The holder's round start writes its lane and the tenure count of its group. -/
theorem roundStart_eq (s : State) (l : LaneId) :
    s.roundStart l =
      (s.setBand (s.groupOf l) { s.arbiter (s.groupOf l) with
        tenureCount := min 15 ((s.arbiter (s.groupOf l)).tenureCount + 1) }).setLane l ((s.lane l).roundStarted s.hallTime) := by
  have written : ∀ a : BandArbiter, a = { s.arbiter (s.groupOf l) with
        tenureCount := satSucc 15 (s.arbiter (s.groupOf l)).tenureCount } →
      s.roundStart l = (s.setBand (s.groupOf l) a).setLane l ((s.roundStart l).lane l) := by
    rintro a rfl
    unfold roundStart
    dsimp only
    split
    · simp [startCycle_eq]
    · split
      · simp [sendTo, modHead, setFlight, modLane]
      · simp [startCycle_eq, countHalf, lossyHalf, deliver, modCounts, modLane]
  rw [written _ rfl, lane_roundStart]
  rfl

theorem sendProbe_eq (s : State) (l : LaneId) (e : ProbeEntry) :
    s.sendProbe l e = s.setLane l ((s.sendProbe l e).lane l) := by
  unfold sendProbe
  dsimp only
  split <;> simp [sendTo, modHead, setFlight, modLane]

/-- The front probe of a queue starts, or waits. -/
theorem startProbe_eq (queued : (s.lane l).probes ≠ []) : s.startProbe l = s.setLane l ((s.lane l).begun s.hallTime) := by
  have written : s.startProbe l = s.setLane l ((s.startProbe l).lane l) := by
    unfold startProbe
    dsimp only
    split
    · split
      · simp
      · exact sendProbe_eq s l _
    · simp
  rw [written, lane_startProbe s l queued]

theorem startProbe_of_idle (idle : (s.lane l).probes = [] ∨ (s.lane l).flight ≠ .nothing) : s.startProbe l = s := by
  unfold startProbe
  dsimp only
  split
  next probes flight => exact absurd idle (by simp [probes, flight])
  · rfl

/-- An arbiter whose band has been granted to a lane that has begun its work. -/
def grantedArbiter (s : State) (l : LaneId) (a : BandArbiter) : BandArbiter :=
  { a with band := .held l, tenureCount := if (s.lane l).probes = [] then 1 else 0, lastHolder := some l }

/-- A grant to a lane of the group writes the arbiter and that lane. -/
theorem grant_eq {g : GroupId} (member : s.groupOf l = g) :
    s.grant g l = (s.setBand g (s.grantedArbiter l (s.arbiter g))).setLane l
      (({ s.lane l with ask := false } : Lane).begun s.hallTime) := by
  unfold grant beginWork grantedArbiter
  dsimp only
  rcases empty : (s.lane l).probes with _ | ⟨e, queue⟩
  · have member' : (s.lane l).settings.bandGroup = g := member
    simp [modLane, empty, roundStart_eq, member', Lane.begun, ← setBand_setLane]
  · simp [modLane, empty, startProbe_eq]

/-! ## The search of an arbiter -/

/-- The lane at which the search of an arbiter starts (05 R95). -/
def searchStart (last : Option LaneId) : LaneId :=
  match last with
  | none => 0
  | some holder => holder + 1

theorem searchOrder_eq (last : Option LaneId) : searchOrder last = (List.finRange 8).map fun i => searchStart last + i := by
  cases last with
  | none => decide
  | some holder =>
    revert holder
    decide

/-- The search finds the lane of a kind that comes first from its start. -/
theorem find?_searchOrder_eq_some {last : Option LaneId} {test : LaneId → Bool} {l : LaneId}
    (found : (searchOrder last).find? test = some l) :
    test l = true ∧ ∀ m, test m = true → (l - searchStart last).val ≤ (m - searchStart last).val := by
  rw [searchOrder_eq, List.find?_map, ← Fin.find?_eq_find?_finRange] at found
  obtain ⟨i, first, rfl⟩ := Option.map_eq_some_iff.1 found
  obtain ⟨passes, before⟩ := Fin.find?_eq_some_iff.1 first
  refine ⟨passes, fun m also => ?_⟩
  by_contra later
  have passed := before (m - searchStart last) (by simpa using later)
  simp [also] at passed

theorem find?_searchOrder_eq_none {last : Option LaneId} {test : LaneId → Bool} :
    (searchOrder last).find? test = none ↔ ∀ m, test m = false := by
  rw [searchOrder_eq, List.find?_map, ← Fin.find?_eq_find?_finRange, Option.map_eq_none_iff, Fin.find?_eq_none_iff]
  refine ⟨fun none m => ?_, fun none i => by simpa using none _⟩
  simpa using none (m - searchStart last)

/-- A lane waits for the band of a group (05 R94). -/
def Waits (s : State) (g : GroupId) (l : LaneId) : Prop := (s.lane l).ask = true ∧ s.groupOf l = g

/-- A lane waits urgently for the band of a group (05 R94). -/
def WaitsUrgently (s : State) (g : GroupId) (l : LaneId) : Prop := s.Waits g l ∧ (s.lane l).probes ≠ []

theorem asks_iff {g : GroupId} : s.asks g l = true ↔ s.Waits g l := by simp [asks, Waits]

theorem asksUrgently_iff {g : GroupId} : s.asksUrgently g l = true ↔ s.WaitsUrgently g l := by
  simp [asksUrgently, WaitsUrgently, ← asks_iff]

/-- The lane that the arbiter of a group chooses: one that waits, urgently if any does, and the first of its class in the search
(05 R95). -/
structure Chosen (s : State) (g : GroupId) (l : LaneId) : Prop where
  waits : s.Waits g l
  urgent : (∃ m, s.WaitsUrgently g m) → s.WaitsUrgently g l
  first : ∀ m, s.Waits g m → (s.WaitsUrgently g l → s.WaitsUrgently g m) →
    (l - searchStart (s.arbiter g).lastHolder).val ≤ (m - searchStart (s.arbiter g).lastHolder).val

theorem chosen_of_some {g : GroupId} (choice : s.chosen g = some l) : s.Chosen g l := by
  unfold chosen at choice
  dsimp only at choice
  rcases Option.or_eq_some_iff.1 choice with urgently | ⟨noneUrgent, some⟩
  · obtain ⟨passes, first⟩ := find?_searchOrder_eq_some urgently
    have own := asksUrgently_iff.1 passes
    exact ⟨own.1, fun _ => own, fun m _ also => first m (asksUrgently_iff.2 (also own))⟩
  · obtain ⟨passes, first⟩ := find?_searchOrder_eq_some some
    have calm : ∀ m, ¬ s.WaitsUrgently g m := fun m h => by
      have := find?_searchOrder_eq_none.1 noneUrgent m
      rw [asksUrgently_iff.2 h] at this
      exact absurd this (by simp)
    exact ⟨asks_iff.1 passes, fun ⟨m, h⟩ => absurd h (calm m), fun m also _ => first m (asks_iff.2 also)⟩

theorem chosen_of_none {g : GroupId} (choice : s.chosen g = none) (m : LaneId) : ¬ s.Waits g m := by
  unfold chosen at choice
  obtain ⟨-, none⟩ := Option.or_eq_none_iff.1 choice
  intro waits
  have := find?_searchOrder_eq_none.1 none m
  rw [asks_iff.2 waits] at this
  exact absurd this (by simp)

/-- What the end of a guard comes to: the band is free where no lane waits, and is granted to the lane chosen where one does. -/
theorem takeGuardEnd_cases (s : State) (g : GroupId) :
    (∀ m, ¬ s.Waits g m) ∧ s.takeGuardEnd g = s.setBand g { s.arbiter g with band := .free }
      ∨ ∃ l, s.Chosen g l ∧ s.takeGuardEnd g = (s.setBand g (s.grantedArbiter l (s.arbiter g))).setLane l
          (({ s.lane l with ask := false } : Lane).begun s.hallTime) := by
  unfold takeGuardEnd
  split
  next l choice =>
    have chosen := chosen_of_some choice
    exact .inr ⟨l, chosen, grant_eq chosen.waits.2⟩
  next choice => exact .inl ⟨chosen_of_none choice, rfl⟩

/-! ## The release of a band -/

/-- A release with a guard gap leads into GUARD. -/
theorem release_of_gap (gap : s.hall.guardGap ≠ 0) (g : GroupId) :
    s.release g = s.setBand g { s.arbiter g with band := .guarding, guardEnd := s.hallTime + s.hall.guardGap } := by
  unfold release
  rw [if_neg gap]

/-- A release with no guard gap is the end of its guard: the band is free, or is granted to the lane chosen. -/
theorem release_at_once (gap : s.hall.guardGap = 0) (g : GroupId) :
    (∀ m, ¬ s.Waits g m) ∧ s.release g = s.setBand g { s.arbiter g with band := .free, guardEnd := s.hallTime }
      ∨ ∃ l, s.Chosen g l ∧ s.release g =
          (s.setBand g (s.grantedArbiter l { s.arbiter g with guardEnd := s.hallTime })).setLane l
            (({ s.lane l with ask := false } : Lane).begun s.hallTime) := by
  have released : s.release g =
      (s.setBand g { s.arbiter g with band := .guarding, guardEnd := s.hallTime }).takeGuardEnd g := by
    unfold release
    rw [if_pos gap, gap]
    rfl
  rw [released]
  rcases takeGuardEnd_cases (s.setBand g { s.arbiter g with band := .guarding, guardEnd := s.hallTime }) g with
    ⟨none, ended⟩ | ⟨l, ⟨waits, urgent, first⟩, ended⟩
  · refine .inl ⟨none, ended.trans ?_⟩
    rw [setBand_setBand, arbiter_setBand_same]
  · rw [arbiter_setBand_same] at first ended
    exact .inr ⟨l, ⟨waits, urgent, first⟩, ended.trans (by rw [setBand_setBand]; rfl)⟩

/-- The release of a lane's own group leaves the lane without the band, but where the lane asks for it and is chosen next. -/
theorem release_own (s : State) (l : LaneId) :
    (s.release (s.groupOf l)).lane l = s.lane l ∧ (s.release (s.groupOf l)).holds l = false
      ∨ (s.lane l).ask = true ∧ (s.release (s.groupOf l)).holds l = true
        ∧ (s.release (s.groupOf l)).lane l = ({ s.lane l with ask := false } : Lane).begun s.hallTime := by
  by_cases gap : s.hall.guardGap = 0
  · rcases release_at_once gap (s.groupOf l) with ⟨-, released⟩ | ⟨m, chosen, released⟩
    · rw [released]
      exact .inl ⟨rfl, by simp [holds]⟩
    · have band : ((s.release (s.groupOf l)).arbiter (s.groupOf l)).band = .held m := by
        rw [released, arbiter_setLane, arbiter_setBand_same]
        rfl
      by_cases own : m = l
      · subst own
        have lane := congrArg (State.lane · m) released
        rw [lane_setLane_same] at lane
        exact .inr ⟨chosen.waits.1, holds_of_band (groupOf_congr (by rw [lane, Lane.begun_frame])) band, lane⟩
      · have lane := congrArg (State.lane · l) released
        rw [lane_setLane_other _ _ (Ne.symm own), lane_setBand] at lane
        exact .inl ⟨lane, not_holds_of_band (g := s.groupOf l) (groupOf_congr (by rw [lane])) (by simpa [band] using own)⟩
  · rw [release_of_gap gap]
    exact .inl ⟨rfl, by simp [holds]⟩

end State


namespace State

variable {s : State} {l : LaneId}

/-! ## Asking for the band, and giving way -/

theorem askBand_of_holder (holder : s.holds l = true) : s.askBand l = s := by
  unfold askBand
  exact if_pos holder

/-- An ask taken while the arbiter is FREE is granted at once. -/
theorem askBand_of_free (free : (s.arbiter (s.groupOf l)).band = .free) :
    s.askBand l = (s.setBand (s.groupOf l) (s.grantedArbiter l (s.arbiter (s.groupOf l)))).setLane l
      (({ s.lane l with ask := false } : Lane).begun s.hallTime) := by
  unfold askBand
  rw [not_holds_of_band rfl (by simp [free]), ← grant_eq rfl]
  simp [free]

/-- An ask taken while the arbiter guards the band or another lane holds it stands. -/
theorem askBand_of_taken (holder : s.holds l = false) (taken : (s.arbiter (s.groupOf l)).band ≠ .free) :
    s.askBand l = s.setLane l { s.lane l with ask := true } := by
  unfold askBand
  simp only [holder, taken, beq_iff_eq, Bool.false_eq_true, if_false]
  rfl

theorem giveWay_eq (s : State) (l : LaneId) :
    s.giveWay l = ((s.setLane l (s.lane l).breakCycle).release (s.groupOf l)).askBand l := rfl

/-! ## The holder's decision about a lane just written -/

/-- Another lane of the group of `l` waits for the band. -/
def WaitsBeside (s : State) (l m : LaneId) : Prop := m ≠ l ∧ (s.lane m).ask = true ∧ s.groupOf m = s.groupOf l

/-- A holder without a probe gives way: another lane waits urgently, or waits at all once the tenure is used up (05 R96). -/
def MustGiveWay (s : State) (l : LaneId) : Prop :=
  (∃ m, s.WaitsBeside l m ∧ (s.lane m).probes ≠ [])
    ∨ (s.lane l).settings.tenure ≤ (s.arbiter (s.groupOf l)).tenureCount ∧ ∃ m, s.WaitsBeside l m

theorem MustGiveWay.exists_waits (must : s.MustGiveWay l) : ∃ m, s.WaitsBeside l m := by
  rcases must with ⟨m, waits, -⟩ | ⟨-, some⟩
  · exact ⟨m, waits⟩
  · exact some

section
variable {z : Lane} (settings : z.settings = (s.lane l).settings)
include settings

theorem groupOf_setLane (m : LaneId) : (s.setLane l z).groupOf m = s.groupOf m := by
  unfold groupOf
  rw [lane_setLane]
  split
  next same => rw [settings, same]
  · rfl

theorem waitsBeside_setLane (m : LaneId) : (s.setLane l z).WaitsBeside l m ↔ s.WaitsBeside l m := by
  unfold WaitsBeside
  rw [groupOf_setLane settings, groupOf_setLane settings]
  refine and_congr_right fun other => ?_
  rw [lane_setLane_other s z other]

/-- Once a lane does not ask, those that wait for the band of its group are the others. -/
theorem waits_setLane_of_unasked (unasked : z.ask = false) {m : LaneId} :
    (s.setLane l z).Waits (s.groupOf l) m ↔ s.WaitsBeside l m := by
  rw [← waitsBeside_setLane settings]
  refine ⟨fun waits => ⟨?_, waits.1, ?_⟩, fun waits => ⟨waits.2.1, ?_⟩⟩
  · rintro rfl
    have asks := waits.1
    rw [lane_setLane_same, unasked] at asks
    exact absurd asks (by decide)
  · rw [waits.2, groupOf_setLane settings]
  · rw [waits.2.2, groupOf_setLane settings]

theorem mustGiveWay_setLane : (s.setLane l z).MustGiveWay l ↔ s.MustGiveWay l := by
  unfold MustGiveWay
  simp only [waitsBeside_setLane settings, groupOf_setLane settings, lane_setLane_same, settings, arbiter_setLane]
  refine or_congr_left (exists_congr fun m => and_congr_right fun waits => ?_)
  rw [lane_setLane_other s z waits.1]

theorem holds_setLane : (s.setLane l z).holds l = s.holds l := by
  unfold holds
  rw [groupOf_setLane settings]
  rfl

end

/-- The holder's decision: to run a probe, to give way, or to go on with its rounds. -/
theorem decideNext_eq (s : State) (l : LaneId) :
    ((s.lane l).probes ≠ [] → s.decideNext l = s.setLane l ((s.lane l).breakCycle.begun s.hallTime))
      ∧ ((s.lane l).probes = [] → s.MustGiveWay l → s.decideNext l = s.giveWay l)
      ∧ ((s.lane l).probes = [] → ¬ s.MustGiveWay l → s.decideNext l = s.roundStart l) := by
  refine ⟨fun queued => ?_, fun empty must => ?_, fun empty stays => ?_⟩
  · rw [decideNext_probes queued, startProbe_eq]
    · simp [modLane]
    · simpa [Lane.breakCycle_eq] using queued
  · refine decideNext_gives_way empty ?_
    rwa [otherAsksUrgently_iff, otherAsks_iff]
  · obtain ⟨calm, left⟩ := not_or.1 stays
    refine decideNext_keeps empty ?_ ?_
    · rw [← Bool.not_eq_true, otherAsksUrgently_iff]
      exact calm
    · rwa [otherAsks_iff]

section
variable {z : Lane} (settings : z.settings = (s.lane l).settings)

/-- A holder with a probe queued runs it in its broken cycle. -/
theorem decideNext_of_queue (queued : z.probes ≠ []) :
    (s.setLane l z).decideNext l = s.setLane l (z.breakCycle.begun s.hallTime) := by
  have decided := (decideNext_eq (s.setLane l z) l).1 (by simpa using queued)
  simpa using decided

include settings

/-- A holder that need not give way makes its next round start. -/
theorem decideNext_of_tenure (empty : z.probes = []) (stays : ¬ s.MustGiveWay l) :
    (s.setLane l z).decideNext l =
      (s.setBand (s.groupOf l) { s.arbiter (s.groupOf l) with
        tenureCount := min 15 ((s.arbiter (s.groupOf l)).tenureCount + 1) }).setLane l (z.begun s.hallTime) := by
  have decided := (decideNext_eq (s.setLane l z) l).2.2 (by simpa using empty) (by rwa [mustGiveWay_setLane settings])
  rw [decided, roundStart_eq, groupOf_setLane settings, Lane.begun_of_empty _ _ empty]
  simp [setBand_setLane]

/-- A holder that gives way with a guard gap leaves the band in GUARD and asks again. -/
theorem decideNext_of_gap (empty : z.probes = []) (must : s.MustGiveWay l) (gap : s.hall.guardGap ≠ 0) :
    (s.setLane l z).decideNext l =
      (s.setBand (s.groupOf l) { s.arbiter (s.groupOf l) with
        band := .guarding, guardEnd := s.hallTime + s.hall.guardGap }).setLane l { z.breakCycle with ask := true } := by
  have decided := (decideNext_eq (s.setLane l z) l).2.1 (by simpa using empty) (by rwa [mustGiveWay_setLane settings])
  have broken : z.breakCycle.settings = (s.lane l).settings := by rw [Lane.breakCycle_eq, settings]
  rw [decided, giveWay_eq, groupOf_setLane settings, release_of_gap (by exact gap)]
  simp only [lane_setLane_same, setLane_setLane, arbiter_setLane, setBand_setLane, setLane_hallTime, setLane_hall]
  rw [askBand_of_taken]
  · simp
  · simp [holds, groupOf_setLane (s := s.setBand _ _) broken]
  · simp [groupOf_setLane (s := s.setBand _ _) broken]

/-- A holder that gives way with no guard gap leaves the band to a waiting lane at once, and asks again. -/
theorem decideNext_at_once (empty : z.probes = []) (must : s.MustGiveWay l) (gap : s.hall.guardGap = 0) (unasked : z.ask = false) :
    ∃ m, s.WaitsBeside l m ∧ ((s.setLane l z).decideNext l).lane l = { z.breakCycle with ask := true }
      ∧ (((s.setLane l z).decideNext l).arbiter (s.groupOf l)).band = .held m := by
  have decided := (decideNext_eq (s.setLane l z) l).2.1 (by simpa using empty) (by rwa [mustGiveWay_setLane settings])
  have broken : z.breakCycle.settings = (s.lane l).settings := by rw [Lane.breakCycle_eq, settings]
  have waitsIff := fun m => waits_setLane_of_unasked (m := m) broken (by rw [Lane.breakCycle_eq]; exact unasked)
  rw [decided, giveWay_eq, groupOf_setLane settings, lane_setLane_same, setLane_setLane]
  rcases release_at_once (s := s.setLane l z.breakCycle) gap (s.groupOf l) with ⟨none, -⟩ | ⟨m, chosen, released⟩
  · obtain ⟨m, waits⟩ := must.exists_waits
    exact absurd ((waitsIff m).2 waits) (none m)
  · have other := ((waitsIff m).1 chosen.waits).1
    have own : ((s.setLane l z.breakCycle).release (s.groupOf l)).lane l = z.breakCycle := by
      rw [released, lane_setLane_other _ _ (Ne.symm other), lane_setBand, lane_setLane_same]
    have group : ((s.setLane l z.breakCycle).release (s.groupOf l)).groupOf l = s.groupOf l := groupOf_congr (by rw [own, broken])
    have held : (((s.setLane l z.breakCycle).release (s.groupOf l)).arbiter (s.groupOf l)).band = .held m := by
      rw [released, arbiter_setLane, arbiter_setBand_same]
      rfl
    refine ⟨m, (waitsIff m).1 chosen.waits, ?_⟩
    rw [askBand_of_taken]
    · rw [lane_setLane_same, own]
      exact ⟨rfl, held⟩
    · exact not_holds_of_band group (by simp [held, other])
    · simp [group, held]

end

/-! ## The lane of a holder that has decided -/

theorem lane_askBand (s : State) (l : LaneId) :
    s.holds l = true ∧ s.askBand l = s ∨ (s.askBand l).lane l = { s.lane l with ask := true }
      ∨ (s.askBand l).lane l = ({ s.lane l with ask := false } : Lane).begun s.hallTime := by
  cases holder : s.holds l with
  | true => exact .inl ⟨rfl, askBand_of_holder holder⟩
  | false =>
    by_cases free : (s.arbiter (s.groupOf l)).band = .free
    · rw [askBand_of_free free, lane_setLane_same]
      exact .inr (.inr rfl)
    · rw [askBand_of_taken holder free, lane_setLane_same]
      exact .inr (.inl rfl)

/-- The lane of a holder that gives way: it asks again, or as the lane that is chosen next it begins its work. -/
theorem lane_giveWay (s : State) (l : LaneId) :
    (s.giveWay l).lane l = { (s.lane l).breakCycle with ask := true }
      ∨ (s.giveWay l).lane l = ({ (s.lane l).breakCycle with ask := false } : Lane).begun s.hallTime := by
  have group : s.groupOf l = (s.setLane l (s.lane l).breakCycle).groupOf l := by simp [groupOf, Lane.breakCycle_eq]
  have time := congrArg State.hallTime (lanesOnly_release (s.setLane l (s.lane l).breakCycle) (s.groupOf l))
  rw [giveWay_eq]
  rw [group] at time ⊢
  rcases release_own (s.setLane l (s.lane l).breakCycle) l with ⟨kept, holder⟩ | ⟨-, holder, began⟩
  · rcases lane_askBand ((s.setLane l (s.lane l).breakCycle).release ((s.setLane l (s.lane l).breakCycle).groupOf l)) l with
      ⟨held, -⟩ | asks | began
    · exact absurd (held.symm.trans holder) (by decide)
    · rw [kept, lane_setLane_same] at asks
      exact .inl asks
    · rw [kept, lane_setLane_same, time] at began
      exact .inr began
  · rw [askBand_of_holder holder, began, lane_setLane_same]
    exact .inr rfl

end State

/-- What a holder's decision makes of its lane: a buffered half stays or is lost, and the lane asks for the band or begins its work. -/
def Lane.Decided (now : Time) (x y : Lane) : Prop :=
  ∃ buffer ask, (buffer = x.buffer ∨ buffer = none)
    ∧ (y = { x with buffer := buffer, ask := true } ∨ y = ({ x with buffer := buffer, ask := ask } : Lane).begun now)

theorem Lane.Decided.of_broken {now : Time} {x y : Lane} (ask : Bool)
    (h : y = { x.breakCycle with ask := true } ∨ y = ({ x.breakCycle with ask := ask } : Lane).begun now) : x.Decided now y := by
  rw [Lane.breakCycle_eq] at h
  refine ⟨_, ask, ?_, h⟩
  split
  · exact .inl rfl
  · exact .inr rfl

theorem State.decideNext_decided (s : State) (l : LaneId) : (s.lane l).Decided s.hallTime ((s.decideNext l).lane l) := by
  obtain ⟨runs, gives, stays⟩ := State.decideNext_eq s l
  by_cases empty : (s.lane l).probes = []
  · by_cases must : s.MustGiveWay l
    · rw [gives empty must]
      exact Lane.Decided.of_broken false (State.lane_giveWay s l)
    · rw [stays empty must, State.lane_roundStart, ← Lane.begun_of_empty _ _ empty]
      exact ⟨_, _, .inl rfl, .inr rfl⟩
  · rw [runs empty, State.lane_setLane_same]
    exact Lane.Decided.of_broken (s.lane l).ask (.inr (by rw [Lane.breakCycle_eq]))

/-- A decision leaves the state and the settings of its lane, its probe queue, its awaited probes and its results. -/
structure Lane.SameWork (x y : Lane) : Prop where
  state : y.state = x.state
  settings : y.settings = x.settings
  probes : y.probes = x.probes
  awaited : y.awaited = x.awaited
  results : y.results = x.results

namespace Lane.Decided

variable {now : Time} {x y : Lane} (h : x.Decided now y)
include h

theorem sameWork : x.SameWork y := by
  obtain ⟨buffer, ask, -, rfl | rfl⟩ := h
  · exact ⟨rfl, rfl, rfl, rfl, rfl⟩
  · rw [begun_frame]
    exact ⟨rfl, rfl, rfl, rfl, rfl⟩

/-- With no half buffered, or one whose outer head works, a decision delivers nothing. -/
theorem undelivered (quiet : x.buffer = none ∨ x.outer.working = true) :
    (y.buffer = x.buffer ∨ y.buffer = none) ∧ y.reports = x.reports ∧ y.counts = x.counts := by
  obtain ⟨buffer, ask, kept, rfl | rfl⟩ := h
  · exact ⟨kept, rfl, rfl⟩
  · have quiet' : buffer = none ∨ x.outer.working = true := by
      rcases kept with rfl | rfl
      · exact quiet
      · exact .inl rfl
    obtain ⟨same, reports, counts⟩ := begun_undelivered now { x with buffer := buffer, ask := ask } quiet'
    exact ⟨by rwa [same], reports, counts⟩

theorem head_of_single {k : HeadPos} (state : x.state ≠ .inService) (fails : (x.head k).working = false)
    (works : (x.head (otherHead k)).working = true) : y.head k = x.head k := by
  obtain ⟨buffer, ask, -, rfl | rfl⟩ := h
  · exact head_rebuffered x buffer true k
  · have single := head_begun_of_single now (x := { x with buffer := buffer, ask := ask }) (h := k) state
      (by rwa [head_rebuffered]) (by rwa [head_rebuffered])
    exact single.trans (head_rebuffered x buffer ask k)

theorem probeOut {k : HeadPos} (empty : x.probes = []) (out : (x.head k).probeOut = false) : (y.head k).probeOut = false := by
  obtain ⟨buffer, ask, -, rfl | rfl⟩ := h
  · rwa [head_rebuffered]
  · exact probeOut_begun now empty (by rwa [head_rebuffered])

end Lane.Decided

end Sys2Proof.Machine

/-! # Reports of rounds and probes -/

namespace Sys2Proof.Machine

/-! ## A report that is awaited -/

namespace Lane

@[simp] theorem head_setHead_same (x : Lane) (h : HeadPos) (u : HeadUnit) : (x.setHead h u).head h = u := by cases h <;> rfl
@[simp] theorem head_setHead_other (x : Lane) (h : HeadPos) (u : HeadUnit) :
    (x.setHead h u).head (otherHead h) = x.head (otherHead h) := by cases h <;> rfl
@[simp] theorem head_setHead_otherHead (x : Lane) (h : HeadPos) (u : HeadUnit) :
    (x.setHead (otherHead h) u).head (otherHead h) = u := head_setHead_same ..
@[simp] theorem setHead_settings (x : Lane) (h : HeadPos) (u : HeadUnit) : (x.setHead h u).settings = x.settings := by cases h <;> rfl

@[simp] theorem setHead_head_other (x : Lane) (h : HeadPos) (u : HeadUnit) :
    (x.setHead h u).setHead (otherHead h) (x.head (otherHead h)) = x.setHead h u := by cases h <;> rfl

/-- A lane's head written changes nothing of it but its heads. -/
theorem setHead_frame (x : Lane) (h : HeadPos) (u : HeadUnit) :
    x.setHead h u = { x with inner := (x.setHead h u).inner, outer := (x.setHead h u).outer } := by
  cases h <;> rfl

end Lane

/-- A round's half that completes a cycle of the form in flight, with the halves it has and the buffered half of the lane, and the
report it completes (05 R89, R92). -/
def CompletesCycle (form : Form) (inner outer buffer : Option Half) (half : Half) (r : CycleReport) : Prop :=
  (form = .paired ∧ half.head = .inner ∧ ∃ o, outer = some o ∧ r = { form := .paired, inner := some half, outer := some o })
    ∨ (form = .paired ∧ half.head = .outer ∧ ∃ i, inner = some i ∧ r = { form := .paired, inner := some i, outer := some half })
    ∨ (form = .alternate ∧ half.head = .outer ∧ r = { form := .alternate, inner := buffer, outer := some half })
    ∨ ∃ w, form = .single w ∧ r = { form := form, inner := if half.head = .inner then some half else none
                                    outer := if half.head = .outer then some half else none }

/-- A lane that has counted a half (05 R91). -/
def Lane.counted (half : Half) (x : Lane) : Lane :=
  { x with counts := { x.counts with lossyRounds := x.counts.lossyRounds + (if half.lossy then 1 else 0) } }

/-- A lane whose cycle a half has completed: the report delivered, the cycle counted, nothing in flight (05 R90, R92). -/
def Lane.delivered (half : Half) (r : CycleReport) (x : Lane) : Lane :=
  { x with
    flight := .nothing, buffer := none, reports := x.reports ++ [r]
    counts := { x.counts with
      cycles := x.counts.cycles + 1, lossyRounds := x.counts.lossyRounds + (if half.lossy then 1 else 0) } }

/-- A head whose ROUND or PROBE is aborted is READY and owes an ABORT; any other head is left as it is (04 R77). -/
theorem HeadUnit.abortCommand_eq (u : HeadUnit) : u.abortCommand =
    if u.probeOut = true ∨ u.roundOut = true then { u with state := .ready, outstanding := none, abortOwed := true } else u := by
  simp [abortCommand, or_comm]

/-- A lane whose front probe has ended: the result reported, the entry and its awaited record gone, nothing in flight (05 R101). -/
def Lane.probed (e : ProbeEntry) (queue : List ProbeEntry) (o : ProbeOutcome) (x : Lane) : Lane :=
  { x with
    flight := .nothing, probes := queue, awaited := x.awaited.drop 1
    results := x.results ++ [{ code := e.code, item := e.item, outcome := o
                               live := (x.awaited.head?.map AwaitedProbe.live).getD false }] }

namespace State

variable {s : State} {l : LaneId} {h : HeadPos}

theorem countHalf_eq (s : State) (l : LaneId) (half : Half) : s.countHalf l half = s.setLane l ((s.lane l).counted half) := by
  unfold countHalf Lane.counted
  cases half.lossy with
  | true => rfl
  | false =>
    simp only [Bool.false_eq_true, if_false, add_zero]
    exact (setLane_lane s l).symm

/-- A half that completes its cycle delivers it, and the holder decides. -/
theorem roundEnded_of_complete {half : Half} {form : Form} {inner outer : Option Half} {r : CycleReport}
    (flight : (s.lane l).flight = .rounds form inner outer) (completes : CompletesCycle form inner outer (s.lane l).buffer half r) :
    s.roundEnded l half = (s.setLane l ((s.lane l).delivered half r)).decideNext l := by
  unfold roundEnded
  rw [countHalf_eq]
  dsimp only
  rw [lane_setLane_same, show ((s.lane l).counted half).flight = _ from flight]
  rcases completes with ⟨rfl, head, o, rfl, rfl⟩ | ⟨rfl, head, i, rfl, rfl⟩ | ⟨rfl, head, rfl⟩ | ⟨w, rfl, rfl⟩
  · simp [head, deliver, setFlight, modLane, Lane.delivered, Lane.counted]
  · simp [head, deliver, setFlight, modLane, Lane.delivered, Lane.counted]
  · simp [head, deliver, setFlight, modLane, Lane.delivered, Lane.counted]
  · cases head : half.head with
    | inner => simp [deliver, setFlight, modLane, Lane.delivered, Lane.counted]
    | outer => simp [deliver, setFlight, modLane, Lane.delivered, Lane.counted]

/-- The first half of a PAIRED cycle waits for the other head's. -/
theorem roundEnded_of_first_half {half : Half} {inner outer : Option Half}
    (flight : (s.lane l).flight = .rounds .paired inner outer) (innerFirst : half.head = .inner → outer = none)
    (outerFirst : half.head = .outer → inner = none) :
    s.roundEnded l half = s.setLane l { (s.lane l).counted half with
      flight := .rounds .paired (if half.head = .inner then some half else none)
        (if half.head = .outer then some half else none) } := by
  unfold roundEnded
  rw [countHalf_eq]
  dsimp only
  rw [lane_setLane_same, show ((s.lane l).counted half).flight = _ from flight]
  cases head : half.head with
  | inner =>
    rw [innerFirst head]
    simp [setFlight, modLane]
  | outer =>
    rw [outerFirst head]
    simp [setFlight, modLane]

/-- The inner half of an ALTERNATE cycle is buffered, and the holder decides. -/
theorem roundEnded_of_inner_half {half : Half} {inner outer : Option Half}
    (flight : (s.lane l).flight = .rounds .alternate inner outer) (head : half.head = .inner) :
    s.roundEnded l half =
      (s.setLane l { (s.lane l).counted half with buffer := some half, flight := .nothing }).decideNext l := by
  unfold roundEnded
  rw [countHalf_eq]
  dsimp only
  rw [lane_setLane_same, show ((s.lane l).counted half).flight = _ from flight, head]
  simp [setFlight, modLane]

theorem exec_roundReport {message : List Byte} {q : BitVec 8} {overflow : Bool} {codes : List TagCode}
    (parsed : parseHeadMessage message = some (.round q overflow codes)) :
    exec (.roundReport l h message) s = .next (s.takeRound l h q overflow codes) := by
  show execRoundReport l h message s = _
  unfold execRoundReport
  rw [parsed]

theorem exec_probeReport {message : List Byte} {q : BitVec 8} {found : Bool}
    (parsed : parseHeadMessage message = some (.probe q found)) :
    exec (.probeReport l h message) s = .next (s.takeProbe l h q found) := by
  show execProbeReport l h message s = _
  unfold execProbeReport
  rw [parsed]

theorem exec_identReply {message : List Byte} {position : HeadPos} (parsed : parseHeadMessage message = some (.ident position)) :
    exec (.identReply l h message) s = .next (s.takeIdent l h position).drive := by
  show execIdentReply l h message s = _
  unfold execIdentReply
  rw [parsed]

/-- A probe that has ended leaves its queue with its record, and the holder decides. -/
theorem endProbe_eq {form : Form} {faulted : Bool} {e : ProbeEntry} {queue : List ProbeEntry} (o : ProbeOutcome)
    (flight : (s.lane l).flight = .probe form faulted) (front : (s.lane l).probes = e :: queue) :
    s.endProbe l o = (s.setLane l ((s.lane l).probed e queue o)).decideNext l := by
  unfold endProbe
  rw [flight, front]
  rfl

/-- A head that has found nothing ends the probe where no other head is to answer. -/
theorem probeHeadEnded_of_last {form : Form} {faulted : Bool} (byFault : Bool) (flight : (s.lane l).flight = .probe form faulted)
    (alone : form = .paired → ((s.lane l).head (otherHead h)).probeOut = false) (last : form = .alternate → h = .outer) :
    s.probeHeadEnded l h byFault = s.endProbe l (if (faulted || byFault) = true then .failed else .notSeen) := by
  unfold probeHeadEnded
  rw [flight]
  cases form with
  | paired => simp [alone rfl, unseen]
  | alternate =>
    rw [last rfl]
    rfl
  | single w => rfl

/-- A PAIRED probe waits for the other head. -/
theorem probeHeadEnded_of_paired {faulted : Bool} (byFault : Bool) (flight : (s.lane l).flight = .probe .paired faulted)
    (out : ((s.lane l).head (otherHead h)).probeOut = true) :
    s.probeHeadEnded l h byFault = s.setLane l { s.lane l with flight := .probe .paired (faulted || byFault) } := by
  unfold probeHeadEnded
  rw [flight]
  simp [out, setFlight, modLane]

/-- An ALTERNATE probe goes on to the outer head. -/
theorem probeHeadEnded_of_inner {faulted : Bool} {e : ProbeEntry} {queue : List ProbeEntry} (byFault : Bool)
    (flight : (s.lane l).flight = .probe .alternate faulted) (front : (s.lane l).probes = e :: queue) :
    s.probeHeadEnded l .inner byFault = s.setLane l { s.lane l with
      outer := (s.lane l).outer.send s.hallTime fun q => .probe q e.code, flight := .probe .alternate (faulted || byFault) } := by
  have outer (b : Bool) : s.probeOuter l b = s.setLane l { s.lane l with
      outer := (s.lane l).outer.send s.hallTime fun q => .probe q e.code, flight := .probe .alternate b } := by
    unfold probeOuter
    split
    next none => exact absurd (none.symm.trans front) (by simp)
    next some =>
      obtain ⟨rfl, -⟩ := List.cons.inj (some.symm.trans front)
      simp [sendTo, modHead, setFlight, modLane, Lane.setHead, Lane.head]
  unfold probeHeadEnded
  rw [flight]
  exact outer _

theorem takeProbe_of_awaited {q : BitVec 8} (found : Bool) (awaited : ((s.lane l).head h).awaited = some (false, q)) :
    s.takeProbe l h q found =
      if found then (s.setLane l ((s.lane l).setHead h ((s.lane l).head h).answered)).probeFound l h
      else (s.setLane l ((s.lane l).setHead h ((s.lane l).head h).answered)).probeHeadEnded l h false := if_pos awaited

theorem takeRound_of_awaited {q : BitVec 8} {overflow : Bool} {codes : List TagCode}
    (awaited : ((s.lane l).head h).awaited = some (true, q)) :
    s.takeRound l h q overflow codes =
      (s.setLane l ((s.lane l).setHead h ((s.lane l).head h).answered)).roundEnded l
        { head := h, codes := codes, lossy := overflow, endTime := s.hallTime } := if_pos awaited

end State

end Sys2Proof.Machine

/-! # The statements about reports, settled -/

namespace Sys2Proof.Proofs

open Sys2Proof Sys2Proof.Machine Sys2Proof.Machine.State

/-- Settles O34: a report that completes its cycle writes the delivered lane, and the rest is the holder's decision about it. -/
theorem roundReportsCompleteCycles : Obligations.RoundReportsCompleteCycles := by
  unfold Obligations.RoundReportsCompleteCycles
  intro s l h message q overflow codes form inner outer parsed awaited flight half delivers
  let y : Lane := (s.lane l).setHead h ((s.lane l).head h).answered
  have yFrame : y = { s.lane l with inner := y.inner, outer := y.outer } := Lane.setHead_frame ..
  have ran {r : CycleReport} (completes : CompletesCycle form inner outer (s.lane l).buffer half r) :
      exec (.roundReport l h message) s = .next ((s.setLane l (y.delivered half r)).decideNext l) := by
    rw [exec_roundReport parsed, takeRound_of_awaited awaited, roundEnded_of_complete (s := s.setLane l y) (r := r)]
    · rw [lane_setLane_same, setLane_setLane]
    · rw [lane_setLane_same, yFrame]
      exact flight
    · rw [lane_setLane_same, yFrame]
      exact completes
  have settings (r : CycleReport) : (y.delivered half r).settings = (s.lane l).settings := Lane.setHead_settings ..
  have probes (r : CycleReport) : (y.delivered half r).probes = (s.lane l).probes := by
    rw [yFrame]
    rfl
  have delivered {r : CycleReport} (completes : CompletesCycle form inner outer (s.lane l).buffer half r) : delivers r := by
    have decided := decideNext_decided (s.setLane l (y.delivered half r)) l
    rw [lane_setLane_same] at decided
    obtain ⟨buffer, reports, counts⟩ := decided.undelivered (.inl rfl)
    refine ⟨_, ran completes, ?_, ?_, ?_, buffer.elim id id, (lanesOnly_setLane ..).trans (lanesOnly_decideNext ..)⟩
    · rw [reports, yFrame]
      rfl
    · rw [counts, yFrame]
      rfl
    · rw [counts, yFrame]
      rfl
  refine ⟨?paired_inner, ?paired_outer, ?alternate, ?single, ?gives_way, ?goes_on⟩
  case paired_inner => exact fun form head o other => delivered (.inl ⟨form, head, o, other, rfl⟩)
  case paired_outer => exact fun form head i other => delivered (.inr (.inl ⟨form, head, i, other, rfl⟩))
  case alternate => exact fun form head => delivered (.inr (.inr (.inl ⟨form, head, rfl⟩)))
  case single => exact fun w form => delivered (.inr (.inr (.inr ⟨w, form, rfl⟩)))
  case gives_way =>
    intro x g waits last empty unasked must
    obtain ⟨r, completes⟩ : ∃ r, CompletesCycle form inner outer (s.lane l).buffer half r := by
      rcases last with ⟨form, head, some⟩ | ⟨form, head, some⟩ | ⟨form, head⟩ | ⟨w, form⟩
      · obtain ⟨o, other⟩ := Option.ne_none_iff_exists'.1 some
        exact ⟨_, .inl ⟨form, head, o, other, rfl⟩⟩
      · obtain ⟨i, other⟩ := Option.ne_none_iff_exists'.1 some
        exact ⟨_, .inr (.inl ⟨form, head, i, other, rfl⟩)⟩
      · exact ⟨_, .inr (.inr (.inl ⟨form, head, rfl⟩))⟩
      · exact ⟨_, .inr (.inr (.inr ⟨w, form, rfl⟩))⟩
    have unasked' : (y.delivered half r).ask = false := by
      rw [yFrame]
      exact unasked
    have broken : (y.delivered half r).breakCycle.flight = .nothing := by rw [Lane.breakCycle_eq]; rfl
    refine ⟨_, ran completes, ?_⟩
    by_cases gap : s.hall.guardGap = 0
    · obtain ⟨m, other, lane, held⟩ := decideNext_at_once (settings r) ((probes r).trans empty) must gap unasked'
      rw [lane]
      exact ⟨broken, rfl, fun positive => absurd gap positive, fun _ => ⟨m, other, held⟩⟩
    · rw [decideNext_of_gap (settings r) ((probes r).trans empty) must gap, lane_setLane_same]
      exact ⟨broken, rfl, fun _ => arbiter_setBand_same .., fun zero => absurd zero gap⟩
  case goes_on =>
    intro x g waits completes r complete z goesOn
    have written : z = y.delivered half r := by cases h <;> rfl
    have whole : (y.delivered half r).breakCycle = y.delivered half r := by
      rw [Lane.breakCycle_eq]
      exact congrArg (fun b => { y.delivered half r with buffer := b }) (ite_self none)
    refine ⟨fun queued => ?_, fun empty calm left => ?_⟩
    · have next := decideNext_of_queue (s := s) (l := l) (z := y.delivered half r) (by rwa [probes r])
      obtain ⟨lane, rest⟩ := written_frame (a := s.arbiter g) (next.trans (by rw [setBand_arbiter]))
      exact ⟨_, ran complete, lane.trans (by rw [whole, written]), rest⟩
    · obtain ⟨lane, rest⟩ := written_frame (decideNext_of_tenure (settings r) ((probes r).trans empty) (not_or.2 ⟨calm, left⟩))
      exact ⟨_, ran complete, lane.trans (by rw [written]), rest⟩

/-- Settles O35: the first half of a PAIRED cycle is kept in flight; the inner half of an ALTERNATE cycle is buffered, and the rest is
the holder's decision about the lane with that buffer. -/
theorem roundReportsOfUnfinishedCycles : Obligations.RoundReportsOfUnfinishedCycles := by
  unfold Obligations.RoundReportsOfUnfinishedCycles
  intro s l h message q overflow codes form inner outer parsed awaited flight half x counted ready
  have ran : exec (.roundReport l h message) s =
      .next ((s.setLane l (x.setHead h (ready (x.head h)))).roundEnded l half) := by
    rw [exec_roundReport parsed, takeRound_of_awaited awaited]
    rfl
  have reported : (s.setLane l (x.setHead h (ready (x.head h)))).lane l =
      { x with inner := (x.setHead h (ready (x.head h))).inner, outer := (x.setHead h (ready (x.head h))).outer } := by
    rw [lane_setLane_same]
    exact Lane.setHead_frame ..
  let z : Lane := { x with
    inner := ready x.inner, counts := counted, buffer := some half, flight := .nothing }
  have decides (alternate : form = .alternate) (head : h = .inner) :
      exec (.roundReport l .inner message) s = .next ((s.setLane l z).decideNext l) := by
    subst alternate head
    rw [ran, roundEnded_of_inner_half (by rw [reported]; exact flight) rfl, lane_setLane_same, setLane_setLane]
    rfl
  refine ⟨?paired, ?goes_on, ?broken⟩
  case paired =>
    rintro rfl innerFirst outerFirst
    rw [ran, roundEnded_of_first_half (by rw [reported]; exact flight) innerFirst outerFirst, lane_setLane_same, setLane_setLane]
    cases h with
    | inner => rfl
    | outer => rfl
  case goes_on =>
    intro alternate head empty works alone a sent
    have stays : ¬ s.MustGiveWay l := fun must => by
      obtain ⟨m, other, asks, group⟩ := must.exists_waits
      exact alone m other asks group
    rw [decides alternate head, decideNext_of_tenure (z := z) rfl empty stays, Lane.begun_of_empty _ z empty,
      Lane.roundStarted_of_outer s.hallTime z rfl works]
    rfl
  case broken =>
    intro alternate head g waits kept
    refine ⟨fun empty must unasked => ?_, fun queued innerClear outerClear => ?_⟩
    · refine ⟨_, decides alternate head, ?_⟩
      by_cases gap : s.hall.guardGap = 0
      · obtain ⟨m, other, lane, held⟩ := decideNext_at_once (z := z) rfl empty must gap (unasked gap)
        rw [lane, Lane.breakCycle_eq]
        exact ⟨rfl, rfl, rfl, rfl, rfl, fun positive => absurd gap positive, fun _ => ⟨m, other, held⟩⟩
      · rw [decideNext_of_gap (z := z) rfl empty must gap, lane_setLane_same, Lane.breakCycle_eq]
        exact ⟨rfl, rfl, rfl, rfl, rfl, fun _ => arbiter_setBand_same .., fun zero => absurd zero gap⟩
    · obtain ⟨e, queue, front⟩ := List.exists_cons_of_ne_nil queued
      have clear : z.breakCycle.abortWaits = false := by simp [Lane.breakCycle_eq, Lane.abortWaits, z, ready, innerClear, outerClear]
      have front' : z.breakCycle.probes = e :: queue := by rw [Lane.breakCycle_eq]; exact front
      refine ⟨_, z.breakCycle.nextForm, decides alternate head, ?_⟩
      rw [decideNext_of_queue (z := z) queued, lane_setLane_same,
        Lane.begun_of_probe _ _ front' (by rw [Lane.breakCycle_eq]) clear, Lane.breakCycle_eq]
      exact ⟨rfl, rfl, rfl, rfl, rfl, rfl⟩

/-- Settles O36: a report that ends the probe writes the lane with its result, and the rest is the holder's decision about it. -/
theorem probeReportsEndOrContinueTheProbe : Obligations.ProbeReportsEndOrContinueTheProbe := by
  unfold Obligations.ProbeReportsEndOrContinueTheProbe
  intro s l h message q found faulted form e queue parsed awaited flight front x other ready ends
  let u : State := s.setLane l (x.setHead h (ready (x.head h)))
  have ran : exec (.probeReport l h message) s =
      .next (if found then u.probeFound l h else u.probeHeadEnded l h false) := by
    rw [exec_probeReport parsed, takeProbe_of_awaited found awaited]
    rfl
  have uLane : u.lane l = x.setHead h (ready (x.head h)) := lane_setLane_same ..
  have uFlight : (u.lane l).flight = .probe form faulted := by rw [uLane, Lane.setHead_frame]; exact flight
  have uProbes : (u.lane l).probes = e :: queue := by rw [uLane, Lane.setHead_frame]; exact front
  have uOther : (u.lane l).head (otherHead h) = other := by rw [uLane, Lane.head_setHead_other]
  let v : Lane := (x.setHead h (ready (x.head h))).setHead (otherHead h)
    (if found = true ∧ (other.probeOut = true ∨ other.roundOut = true) then
      { other with state := .ready, outstanding := none, abortOwed := true } else other)
  have vFrame : v = { x with inner := v.inner, outer := v.outer } := by
    rw [show v = _ from Lane.setHead_frame .., Lane.setHead_frame x h]
  let endsWith (o : ProbeOutcome) : Prop := found = true ∧ o = .seen
    ∨ found = false ∧ (form = .paired → other.probeOut = false) ∧ (form = .alternate → h = .outer)
      ∧ o = if faulted then .failed else .notSeen
  have decides {o : ProbeOutcome} (ending : endsWith o) :
      exec (.probeReport l h message) s = .next ((s.setLane l (v.probed e queue o)).decideNext l) := by
    rw [ran]
    rcases ending with ⟨rfl, rfl⟩ | ⟨rfl, alone, last, rfl⟩
    · have after : u.modHead l (otherHead h) HeadUnit.abortCommand = s.setLane l v := by
        rw [modHead_eq, uOther, HeadUnit.abortCommand_eq, uLane, show u = _ from rfl, setLane_setLane]
        simp [v]
      have lane : (s.setLane l v).lane l = { x with inner := v.inner, outer := v.outer } := by rw [lane_setLane_same, ← vFrame]
      show Host.Outcome.next ((u.modHead l (otherHead h) HeadUnit.abortCommand).endProbe l .seen) = _
      rw [after, endProbe_eq .seen (by rw [lane]; exact flight) (by rw [lane]; exact front), lane_setLane_same, setLane_setLane]
    · have after : u = s.setLane l v := by
        simp [u, v, other]
      have lane : (s.setLane l v).lane l = { x with inner := v.inner, outer := v.outer } := by rw [lane_setLane_same, ← vFrame]
      rw [if_neg (by decide), probeHeadEnded_of_last false uFlight (by rwa [uOther]) last, after, Bool.or_false,
        endProbe_eq _ (by rw [lane]; exact flight) (by rw [lane]; exact front), lane_setLane_same, setLane_setLane]
  have settings (o : ProbeOutcome) : (v.probed e queue o).settings = x.settings := by
    rw [vFrame]
    rfl
  have lane (o : ProbeOutcome) : (s.setLane l (v.probed e queue o)).lane l = v.probed e queue o := lane_setLane_same ..
  have decided (o : ProbeOutcome) := lane o ▸ decideNext_decided (s.setLane l (v.probed e queue o)) l
  have ended {o : ProbeOutcome} (ending : endsWith o) : ends o ((s.setLane l (v.probed e queue o)).decideNext l) := by
    refine ⟨decides ending, ?_, (decided o).sameWork.probes, ?_, (lanesOnly_setLane ..).trans (lanesOnly_decideNext ..)⟩
    · rw [(decided o).sameWork.results, vFrame]
      rfl
    · rw [(decided o).sameWork.awaited, vFrame]
      rfl
  refine ⟨?found, ?unseen, ?paired, ?alternate, ?decision⟩
  case found =>
    intro seen
    refine ⟨_, ended (.inl ⟨seen, rfl⟩), fun out => ?_⟩
    have gone : v.head (otherHead h) = { other with state := .ready, outstanding := none, abortOwed := true } := by
      rw [Lane.head_setHead_otherHead, if_pos ⟨seen, .inl out⟩]
    have gone' : (v.probed e queue .seen).head (otherHead h) = v.head (otherHead h) := Lane.head_congr rfl rfl _
    by_cases empty : queue = []
    · exact ⟨(decided .seen).probeOut empty (by rw [gone', gone]; rfl), fun more => absurd empty more⟩
    · have broken : (v.probed e queue .seen).breakCycle.head (otherHead h) = v.head (otherHead h) := by
        rw [Lane.breakCycle_eq]
        exact Lane.head_congr rfl rfl _
      have waits : (v.probed e queue .seen).breakCycle.begun s.hallTime = (v.probed e queue .seen).breakCycle := by
        refine Lane.begun_of_waiting _ _ ?_ (Lane.abortWaits_of_head (h := otherHead h) ?_ ?_)
        · rw [Lane.breakCycle_eq]
          exact empty
        · rw [broken, gone]
          rfl
        · rw [broken, gone]
      rw [decideNext_of_queue empty, lane_setLane_same, waits, broken, gone, Lane.breakCycle_eq]
      exact ⟨rfl, fun _ => ⟨rfl, rfl⟩⟩
  case unseen => exact fun lost alone last => ⟨_, ended (.inr ⟨lost, alone, last, rfl⟩)⟩
  case paired =>
    rintro rfl rfl out
    rw [ran, if_neg (by decide), probeHeadEnded_of_paired false uFlight (by rwa [uOther]), Bool.or_false, ← uFlight,
      setLane_setLane, uLane]
  case alternate =>
    rintro rfl rfl rfl sent
    rw [ran, if_neg (by decide), probeHeadEnded_of_inner false uFlight uProbes, Bool.or_false, ← uFlight, HeadUnit.send_eq, uLane,
      setLane_setLane]
    rfl
  case decision =>
    intro g waits releases aborted endsWith' o ending z broken becomes
    have written : z = v.probed e queue o := by cases h <;> rfl
    have brokenWritten : broken = (v.probed e queue o).breakCycle := by
      rw [Lane.breakCycle_eq]
      cases h <;> rfl
    have lands {y : Lane} {a : BandArbiter} (after : (s.setLane l (v.probed e queue o)).decideNext l = (s.setBand g a).setLane l y) :
        becomes y a := by
      obtain ⟨own, arbiter, lanes, arbiters, -⟩ := written_frame after
      exact ⟨_, decides ending, own, arbiter, lanes, arbiters⟩
    refine ⟨fun more => ?_, fun empty stays => ?_, fun empty must gap => ?_, fun empty must gap unasked => ?_⟩
    · rw [brokenWritten]
      exact lands ((decideNext_of_queue more).trans (by rw [setBand_arbiter]))
    · rw [written]
      exact lands (decideNext_of_tenure (settings o) empty stays)
    · rw [brokenWritten]
      exact lands (decideNext_of_gap (settings o) empty must gap)
    · have unasked' : (v.probed e queue o).ask = false := by
        rw [vFrame]
        exact unasked
      obtain ⟨m, other, lane, held⟩ := decideNext_at_once (settings o) empty must gap unasked'
      exact ⟨_, m, decides ending, lane.trans (by rw [brokenWritten]), other, held⟩

end Sys2Proof.Proofs

/-! # Guard ends and owed ABORTs -/

namespace Sys2Proof.Machine.State

theorem exec_guardEnd {s : State} {g : GroupId} (guarding : (s.arbiter g).band = .guarding)
    (reached : (s.arbiter g).guardEnd ≤ s.hallTime) : exec (.guardEnd g) s = .next (s.takeGuardEnd g) := by
  have due : s.guardOver g = true := by simp [guardOver, guarding, reached]
  show Host.Outcome.next (if s.guardOver g then s.takeGuardEnd g else s) = _
  rw [if_pos due]

/-- An ABORT that is owed is sent, and a holder's probe that waited for it starts. -/
theorem exec_abort {s sent : State} {l : LaneId} {h : HeadPos} (owed : ((s.lane l).head h).abortOwed = true)
    (written : sent = s.setLane l ((s.lane l).setHead h { (s.lane l).head h with
      abortOwed := false, sent := ((s.lane l).head h).sent ++ [.abort ((s.lane l).head h).seq] })) :
    exec (.abort l h) s = .next (if s.holds l then sent.startProbe l else sent) := by
  have sends : s.modHead l h HeadUnit.sendOwed = sent := by
    rw [written, modHead_eq, HeadUnit.sendOwed, if_pos owed]
  have holder : sent.holds l = s.holds l := by
    rw [written]
    exact holds_setLane (Lane.setHead_settings ..)
  show Host.Outcome.next (s.sendAbort l h) = _
  unfold sendAbort
  rw [if_pos owed, sends]
  dsimp only
  rw [holder]

end Sys2Proof.Machine.State

namespace Sys2Proof.Proofs

open Sys2Proof Sys2Proof.Machine Sys2Proof.Machine.State

/-- Settles O40: the guard end frees the band or grants it to the lane chosen, whose lane is the one that has begun its work. -/
theorem guardEndGrantsTheBand : Obligations.GuardEndGrantsTheBand := by
  unfold Obligations.GuardEndGrantsTheBand
  intro s g guarding reached waits urgent first
  rw [exec_guardEnd guarding reached]
  rcases takeGuardEnd_cases s g with ⟨none, ended⟩ | ⟨l, chosen, ended⟩
  · exact ⟨fun _ => by rw [ended], fun ⟨l, waiting⟩ => absurd waiting (none l)⟩
  refine ⟨fun none => absurd chosen.waits (none l), fun _ => ?_⟩
  obtain ⟨lane, arbiter, lanes, arbiters, only⟩ := written_frame ended
  refine ⟨_, l, rfl, chosen.waits, chosen.urgent, chosen.first, arbiter, arbiters, lanes, only, ?_⟩
  intro x form sent sentInForm round newCycle owes
  let y : Lane := { x with ask := false }
  have working : y.abortWaits = true ↔ owes := Lane.abortWaits_iff _
  rw [lane]
  refine ⟨fun e queue front => ⟨fun owing => ?_, fun clear idle => ?_⟩, fun empty => ⟨fun unbuffered => ?_, fun half buffered =>
    ⟨fun works => ?_, fun fails => ?_⟩⟩⟩
  · exact Lane.begun_of_waiting _ _ (fun none => List.cons_ne_nil _ _ (front.symm.trans none)) (working.2 owing)
  · exact Lane.begun_of_probe _ _ front idle (by rwa [← Bool.not_eq_true, working])
  · exact (Lane.begun_of_empty _ y empty).trans (Lane.roundStarted_of_empty _ y unbuffered)
  · exact (Lane.begun_of_empty _ y empty).trans (Lane.roundStarted_of_outer _ y buffered works)
  · exact (Lane.begun_of_empty _ y empty).trans (Lane.roundStarted_of_faulted _ y buffered fails)

/-- Settles O39: the ABORT is written to its head, and the probe of a holder starts where nothing keeps it waiting. -/
theorem owedAbortsAreSent : Obligations.OwedAbortsAreSent := by
  unfold Obligations.OwedAbortsAreSent
  intro s l h owed v u sent
  rw [exec_abort (sent := sent) owed rfl]
  have lane : sent.lane l = (s.lane l).setHead h u := lane_setLane_same ..
  have frame := Lane.setHead_frame (s.lane l) h u
  refine ⟨fun quiet => ?_, fun e queue holder front idle clear => ?_⟩
  · have stays : s.holds l = true → sent.startProbe l = sent := fun holder => by
      refine startProbe_of_idle ?_
      rw [lane, frame]
      exact quiet.resolve_left (by simp [holder])
    rw [ite_eq_right_iff.2 stays]
  · have front' : (sent.lane l).probes = e :: queue := by rw [lane, frame]; exact front
    have idle' : (sent.lane l).flight = .nothing := by rw [lane, frame]; exact idle
    have clear' : (sent.lane l).abortWaits = false := by
      rw [lane]
      cases h
      · simpa [Lane.abortWaits, Lane.setHead, Lane.head, otherHead, u] using clear
      · simpa [Lane.abortWaits, Lane.setHead, Lane.head, otherHead, u] using clear
    have started := startProbe_eq (s := sent) (l := l) (by simp [front'])
    rw [Lane.begun_of_probe _ _ front' idle' clear'] at started
    refine ⟨_, (sent.lane l).nextForm, rfl, ?_⟩
    rw [if_pos holder, started, lane_setLane_same]
    exact ⟨rfl, front', rfl⟩

end Sys2Proof.Proofs

/-! # Messages of a head link

What bytes are a message of a head, and reports that are not awaited. -/

namespace Sys2Proof.Machine

/-! ## The check value -/

theorem crcBytes_length (payload : List Byte) : (crcBytes payload).length = 2 := beBytes_length ..

theorem crc_append (bytes : List Byte) (b : Byte) : crc (bytes ++ [b]) = crcByte (crc bytes) b := by
  rw [crc, List.foldl_append]
  rfl

theorem beNat_append (bytes : List Byte) (b : Byte) : beNat (bytes ++ [b]) = 256 * beNat bytes + b.toNat := by
  rw [beNat, List.foldl_append]
  rfl

/-! ## Tag codes -/

theorem beNat_two (m : Nat) (h : m < 256 ^ 2) : beNat [BitVec.ofNat 8 (m / 256 ^ 1), BitVec.ofNat 8 (m / 256 ^ 0)] = m := by
  have := beNat_beBytes 2 m
  rwa [Nat.mod_eq_of_lt h] at this

/-- Tag codes written in 7 bytes each are found again. -/
theorem parseCodes_bytes (codes : List TagCode) (fits : ∀ c ∈ codes, c.mark < 256 ^ 2 ∧ c.item < 256 ^ 5) :
    parseCodes codes.length (codes.flatMap tagBytes) = some codes := by
  induction codes with
  | nil => rfl
  | cons c cs ih =>
    obtain ⟨mark, item⟩ := fits c List.mem_cons_self
    rw [List.flatMap_cons, List.length_cons]
    show (parseCodes cs.length (cs.flatMap tagBytes)).map _ = _
    rw [ih fun d hd => fits d (List.mem_cons_of_mem c hd), beNat_two c.mark mark, beNat_five c.item item]
    rfl

theorem parseCodes_length {n : Nat} {bytes : List Byte} {codes : List TagCode} (parsed : parseCodes n bytes = some codes) :
    bytes.length = 7 * n := by
  induction n generalizing bytes codes with
  | zero =>
    cases bytes with
    | nil => rfl
    | cons b bs => exact absurd parsed (by simp [parseCodes])
  | succ n ih =>
    rcases bytes with _ | ⟨_, _ | ⟨_, _ | ⟨_, _ | ⟨_, _ | ⟨_, _ | ⟨_, _ | ⟨_, rest⟩⟩⟩⟩⟩⟩⟩
    case cons.cons.cons.cons.cons.cons.cons =>
      obtain ⟨_, parsed, -⟩ := Option.map_eq_some_iff.1 parsed
      simp only [List.length_cons, ih parsed]
      omega
    all_goals exact absurd parsed (by simp [parseCodes])

/-! ## The tests of a message (11 R196) -/

theorem eq_or_eq_of_answer {p a b : Byte} {x y r : HeadReply}
    (answer : (if p = a then some x else if p = b then some y else none) = some r) : p = a ∨ p = b := by
  split at answer
  next first => exact .inl first
  next =>
    split at answer
    next second => exact .inr second
    · exact absurd answer (by simp)

/-- The bodies that are a message of a head, by type, length and fields. -/
theorem parseHeadPayload_shapes {body : List Byte} {r : HeadReply} (parsed : parseHeadPayload body = some r) :
    (∃ p : Byte, body = [5, p] ∧ (p = 1 ∨ p = 2)) ∨ (∃ q a : Byte, body = [7, q, a] ∧ (a = 1 ∨ a = 2))
      ∨ ∃ (q o n : Byte) (codes : List Byte), body = 6 :: q :: o :: n :: codes ∧ n.toNat ≤ 40 ∧ codes.length = 7 * n.toNat
          ∧ (o = 0 ∨ o = 1) := by
  unfold parseHeadPayload at parsed
  split at parsed
  next p => exact .inl ⟨p, rfl, eq_or_eq_of_answer parsed⟩
  next q o n codes =>
    split at parsed
    next small =>
      split at parsed
      next cs found =>
        exact .inr (.inr ⟨q, o, n, codes, rfl, small, parseCodes_length found, eq_or_eq_of_answer parsed⟩)
      · exact absurd parsed (by simp)
    · exact absurd parsed (by simp)
  next q a => exact .inr (.inl ⟨q, a, rfl, eq_or_eq_of_answer parsed⟩)
  · exact absurd parsed (by simp)

/-- A payload followed by its check is the message that the payload spells. -/
theorem parseHeadMessage_checked {payload : List Byte} (some : payload ≠ []) :
    parseHeadMessage (payload ++ crcBytes payload) = parseHeadPayload payload := by
  have positive := List.length_pos_iff.2 some
  unfold parseHeadMessage
  simp only [List.length_append, crcBytes_length, Nat.add_sub_cancel, List.take_left, List.drop_left, if_true]
  rw [if_neg (by omega)]

theorem parseHeadMessage_ne_none {message : List Byte} (parsed : parseHeadMessage message ≠ none) :
    3 ≤ message.length ∧ message.drop (message.length - 2) = crcBytes (message.take (message.length - 2))
      ∧ ∃ r, parseHeadPayload (message.take (message.length - 2)) = some r := by
  unfold parseHeadMessage at parsed
  split at parsed
  · exact absurd rfl parsed
  next long =>
    dsimp only at parsed
    split at parsed
    next checked => exact ⟨by omega, checked, Option.ne_none_iff_exists'.1 parsed⟩
    · exact absurd rfl parsed

theorem parseHeadPayload_round (q : BitVec 8) {codes : List TagCode} (few : codes.length ≤ 40)
    (fits : ∀ c ∈ codes, c.mark < 2 ^ 16 ∧ c.item < 2 ^ 40) :
    let tags := codes.flatMap tagBytes
    parseHeadPayload ([6, q, 0, BitVec.ofNat 8 codes.length] ++ tags) = some (.round q false codes)
      ∧ parseHeadPayload ([6, q, 1, BitVec.ofNat 8 codes.length] ++ tags) = some (.round q true codes) := by
  intro tags
  have count : (BitVec.ofNat 8 codes.length).toNat = codes.length := by
    rw [BitVec.toNat_ofNat, Nat.mod_eq_of_lt (by omega)]
  have found := parseCodes_bytes codes fits
  constructor
  · simp [parseHeadPayload, count, few, tags, found]
  · simp [parseHeadPayload, count, few, tags, found]

/-! ## Stale reports (04 R70) -/

namespace State

variable {s : State} {l : LaneId} {h : HeadPos}

theorem takeRound_of_stale {q : BitVec 8} (overflow : Bool) (codes : List TagCode)
    (stale : ((s.lane l).head h).awaited ≠ some (true, q)) : s.takeRound l h q overflow codes = s.countStale l h := if_neg stale

theorem takeProbe_of_stale {q : BitVec 8} (found : Bool) (stale : ((s.lane l).head h).awaited ≠ some (false, q)) :
    s.takeProbe l h q found = s.countStale l h := if_neg stale

theorem takeIdent_of_stale (position : HeadPos) (stale : ((s.lane l).head h).identOut = false) :
    s.takeIdent l h position = s.countStale l h := if_neg (by simp [stale])

end State

end Sys2Proof.Machine

namespace Sys2Proof.Proofs

open Sys2Proof Sys2Proof.Machine Sys2Proof.Machine.State

/-- Settles O37: a report that is not awaited counts, and the bytes of a message are read off its payload and its check. -/
theorem staleReportsAreOnlyCounted : Obligations.StaleReportsAreOnlyCounted := by
  unfold Obligations.StaleReportsAreOnlyCounted
  intro s l h message counted
  refine ⟨fun q o cs parsed stale => ?_, fun q f parsed stale => ?_, fun p parsed stale => ?_, ?messages, ?tests, ?check,
    ⟨rfl, beNat_append, fun k n => ⟨beBytes_length k n, beNat_beBytes k n⟩⟩, ?commands⟩
  · rw [exec_roundReport parsed, takeRound_of_stale _ _ stale]
    rfl
  · rw [exec_probeReport parsed, takeProbe_of_stale _ stale]
    rfl
  · rw [exec_identReply parsed, takeIdent_of_stale _ stale]
    rfl
  case messages =>
    have checked {payload : List Byte} {r : HeadReply} (reads : parseHeadPayload payload = some r) (some : payload ≠ []) :=
      (parseHeadMessage_checked some).trans reads
    refine ⟨checked rfl (by simp), checked rfl (by simp), fun q => ⟨checked rfl (by simp), checked rfl (by simp)⟩,
      fun q codes few fits => ?_⟩
    obtain ⟨whole, overflowed⟩ := parseHeadPayload_round q few fits
    exact ⟨checked whole (by simp), checked overflowed (by simp)⟩
  case tests =>
    intro parsed body
    obtain ⟨long, check, r, reads⟩ := parseHeadMessage_ne_none parsed
    have size : body.length + 2 = message.length := by
      simp only [body, List.length_take]
      omega
    have byte {k : Nat} (inside : k < body.length) : message[k]? = body[k]? := by
      rw [List.getElem?_take_of_lt (by omega)]
    refine ⟨long, check, ?_⟩
    have reads : parseHeadPayload body = some r := reads
    rcases parseHeadPayload_shapes reads with ⟨p, shape, field⟩ | ⟨q, a, shape, field⟩ | ⟨q, o, n, codes, shape, few, count, field⟩
    · have two : body.length = 2 := congrArg List.length shape
      refine .inl ⟨by omega, ?_, field.imp (fun e => ?_) fun e => ?_⟩
      all_goals rw [byte (by omega), shape]
      · rfl
      · rw [e]; rfl
      · rw [e]; rfl
    · have three : body.length = 3 := congrArg List.length shape
      refine .inr (.inl ⟨by omega, ?_, field.imp (fun e => ?_) fun e => ?_⟩)
      all_goals rw [byte (by omega), shape]
      · rfl
      · rw [e]; rfl
      · rw [e]; rfl
    · have more : body.length = 4 + codes.length := by
        rw [shape]
        simp only [List.length_cons]
        omega
      refine .inr (.inr ⟨⟨n, few, ?_, by omega⟩, ?_, field.imp (fun e => ?_) fun e => ?_⟩)
      all_goals rw [byte (by omega), shape]
      · rfl
      · rfl
      · rw [e]; rfl
      · rw [e]; rfl
  case check => exact ⟨rfl, crc_append, by decide, by decide +kernel, fun _ => rfl⟩
  case commands =>
    refine ⟨by decide, fun _ _ => rfl, fun q code => ?_, fun _ => rfl⟩
    rw [List.append_assoc]
    rfl

end Sys2Proof.Proofs

/-! # Lanes that enter service, and lanes whose head has failed -/

namespace Sys2Proof.Machine

@[simp] theorem otherHead_otherHead (h : HeadPos) : otherHead (otherHead h) = h := by cases h <;> rfl

namespace Lane

@[simp] theorem setHead_setHead (x : Lane) (h : HeadPos) (u v : HeadUnit) : (x.setHead h u).setHead h v = x.setHead h v := by
  cases h <;> rfl
@[simp] theorem setHead_head_same (x : Lane) (h : HeadPos) : x.setHead h (x.head h) = x := by cases h <;> rfl
@[simp] theorem setHead_state (x : Lane) (h : HeadPos) (u : HeadUnit) : (x.setHead h u).state = x.state := by cases h <;> rfl

/-- A lane that has entered STOPPED: its commands aborted, its probes FAILED in queue order (04 R80, R81, log entry 37). -/
def stopped (x : Lane) : Lane :=
  { x.abortAll with
    state := .stopped, flight := .nothing, buffer := none, ask := false, probes := []
    awaited := x.awaited.drop x.probes.length
    results := x.results ++ x.probes.zipIdx.map fun e => e.1.result .failed x.awaited[e.2]? }

theorem head_stopped (x : Lane) (h : HeadPos) : x.stopped.head h = (x.head h).abortCommand := by cases h <;> rfl

end Lane

theorem BandWork.link {s t : State} (work : BandWork s t) : t.link = s.link := by rw [work.frame]

namespace State

variable {s : State} {l : LaneId} {h : HeadPos}

/-! ## The outputs driven -/

@[simp] theorem drive_arbiter (s : State) (g : GroupId) : s.drive.arbiter g = s.arbiter g := by
  have bands : s.drive.bands = s.bands := by rw [drive_frame]
  unfold arbiter
  rw [bands]

@[simp] theorem drive_link (s : State) : s.drive.link = s.link := by rw [drive_frame]

@[simp] theorem drive_holds (s : State) (l : LaneId) : s.drive.holds l = s.holds l := by
  unfold holds
  rw [drive_arbiter, groupOf_congr (drive_lane_settings s l)]

@[simp] theorem drive_head (s : State) (l : LaneId) (h : HeadPos) : (s.drive.lane l).head h = (s.lane l).head h := by
  rw [drive_lane s l]
  exact Lane.head_congr rfl rfl h

/-! ## Work on the bands that leaves every lane's state and settings -/

theorem bandWork_setLane (s : State) (l : LaneId) (x : Lane) (settings : x.settings = (s.lane l).settings)
    (state : x.state = (s.lane l).state) : BandWork s (s.setLane l x) := bandWork_modLane s l (fun _ => x) settings state

theorem bandWork_release (s : State) (g : GroupId) : BandWork s (s.release g) := by
  unfold release
  dsimp only
  split
  · exact (bandWork_setBand ..).trans (bandWork_takeGuardEnd ..)
  · exact bandWork_setBand ..

theorem bandWork_askBand (s : State) (l : LaneId) : BandWork s (s.askBand l) := by
  unfold askBand
  dsimp only
  split
  · exact BandWork.refl s
  · split
    · exact bandWork_grant ..
    · exact bandWork_modLane s l _ rfl rfl

theorem bandWork_decideNext (s : State) (l : LaneId) : BandWork s (s.decideNext l) := by
  have broken : BandWork s (s.modLane l Lane.breakCycle) :=
    bandWork_modLane s l _ (by rw [Lane.breakCycle_eq]) (by rw [Lane.breakCycle_eq])
  have gives : BandWork s (s.giveWay l) := (broken.trans (bandWork_release ..)).trans (bandWork_askBand ..)
  unfold decideNext
  dsimp only
  split
  · exact broken.trans (bandWork_startProbe ..)
  · split
    · exact gives
    · split
      · exact gives
      · exact bandWork_roundStart ..

/-! ## Entering STOPPED -/

/-- A lane that does not ask and gives up the band it holds, if any, is left as it is and holds none. -/
theorem releaseIfHeld_own (unasked : (s.lane l).ask = false) :
    (s.releaseIfHeld l).lane l = s.lane l ∧ (s.releaseIfHeld l).holds l = false := by
  unfold releaseIfHeld
  split
  · exact (release_own s l).resolve_right fun asks => by simp [unasked] at asks
  next idle => exact ⟨rfl, by simpa using idle⟩

theorem enterStopped_eq (s : State) (l : LaneId) :
    s.enterStopped l = ((s.setLane l (s.lane l).stopped).raise .fault).releaseIfHeld l := rfl

/-- A lane that stops has let go of its work and of the band, and raises FAULT. -/
theorem enterStopped_own (s : State) (l : LaneId) :
    (s.enterStopped l).lane l = (s.lane l).stopped ∧ (s.enterStopped l).holds l = false
      ∧ (s.enterStopped l).link.notices.fault = true ∧ (s.enterStopped l).link.noticeLine = true := by
  have written : ((s.setLane l (s.lane l).stopped).raise .fault).lane l = (s.lane l).stopped := lane_setLane_same ..
  obtain ⟨lane, holder⟩ := releaseIfHeld_own (s := (s.setLane l (s.lane l).stopped).raise .fault) (l := l) (by rw [written]; rfl)
  rw [enterStopped_eq]
  refine ⟨lane.trans written, holder, ?_⟩
  rw [(bandWork_releaseIfHeld _ l).frame]
  exact ⟨rfl, rfl⟩

/-! ## Asking for the band as a lane just written -/

/-- A lane that works with one head and asks for the band sends nothing to the other. -/
theorem askBand_head_of_single (state : (s.lane l).state ≠ .inService) (fails : ((s.lane l).head h).working = false)
    (works : ((s.lane l).head (otherHead h)).working = true) : ((s.askBand l).lane l).head h = (s.lane l).head h := by
  rcases lane_askBand s l with ⟨-, same⟩ | asks | began
  · rw [same]
  · rw [asks]
    exact Lane.head_congr rfl rfl h
  · rw [began]
    have same (k : HeadPos) : ({ s.lane l with ask := false } : Lane).head k = (s.lane l).head k := Lane.head_congr rfl rfl k
    exact (Lane.head_begun_of_single _ (x := { s.lane l with ask := false }) (h := h) state (by rwa [same]) (by rwa [same])).trans
      (same h)

/-- A lane just written that asks for the band is granted a free one and begins its work; while the band is taken its ask stands. -/
theorem askBand_setLane {z : Lane} (settings : z.settings = (s.lane l).settings) (probes : z.probes = (s.lane l).probes)
    (idle : s.holds l = false) :
    let t := ((s.setLane l z).askBand l).drive
    let g := s.groupOf l
    ((s.arbiter g).band = .free → OutputsOnly (({ z with ask := false } : Lane).begun s.hallTime) (t.lane l)
        ∧ t.arbiter g = { s.arbiter g with
            band := .held l, lastHolder := some l, tenureCount := if (s.lane l).probes = [] then 1 else 0 })
      ∧ ((s.arbiter g).band ≠ .free → OutputsOnly { z with ask := true } (t.lane l) ∧ t.arbiter g = s.arbiter g)
      ∧ (∀ m, m ≠ l → OutputsOnly (s.lane m) (t.lane m)) ∧ ∀ k, k ≠ g → t.arbiter k = s.arbiter k := by
  intro t g
  have group : (s.setLane l z).groupOf l = g := groupOf_setLane settings l
  have asked : ∃ v a, (s.setLane l z).askBand l = (s.setBand g a).setLane l v
      ∧ ((s.arbiter g).band = .free → v = ({ z with ask := false } : Lane).begun s.hallTime
          ∧ a = { s.arbiter g with band := .held l, lastHolder := some l, tenureCount := if (s.lane l).probes = [] then 1 else 0 })
      ∧ ((s.arbiter g).band ≠ .free → v = { z with ask := true } ∧ a = s.arbiter g) := by
    by_cases free : (s.arbiter g).band = .free
    · refine ⟨_, _, ?_, fun _ => ⟨rfl, rfl⟩, fun taken => absurd free taken⟩
      rw [askBand_of_free (by rw [group]; exact free), group]
      simp [grantedArbiter, setBand_setLane, probes]
    · refine ⟨_, _, ?_, fun is => absurd is free, fun _ => ⟨rfl, rfl⟩⟩
      rw [askBand_of_taken (by rwa [holds_setLane settings]) (by rw [group]; exact free)]
      simp
  obtain ⟨v, a, written, granted, stands⟩ := asked
  obtain ⟨lane, arbiter, lanes, arbiters, -⟩ := written_frame written
  have own : OutputsOnly v (t.lane l) := lane ▸ drive_lane _ l
  have band : t.arbiter g = a := (drive_arbiter ..).trans arbiter
  refine ⟨fun free => ?_, fun taken => ?_, fun m other => lanes m other ▸ drive_lane _ m,
    fun k other => (drive_arbiter ..).trans (arbiters k other)⟩
  · obtain ⟨rfl, rfl⟩ := granted free
    exact ⟨own, band⟩
  · obtain ⟨rfl, rfl⟩ := stands taken
    exact ⟨own, band⟩

/-! ## Leaving STARTING (04 R79, R80) -/

theorem leaveStarting_of_unknown (waits : ((s.lane l).head h).state = .unknown) : s.leaveStarting l = s := by
  unfold leaveStarting
  refine if_pos ?_
  cases h with
  | inner => simp [show (s.lane l).inner.state = .unknown from waits]
  | outer => simp [show (s.lane l).outer.state = .unknown from waits]

theorem leaveStarting_of_ready (ready : ((s.lane l).head h).state = .ready)
    (other : ((s.lane l).head (otherHead h)).state = .ready) :
    s.leaveStarting l = (s.setLane l { s.lane l with state := .inService }).askBand l := by
  have both : (s.lane l).inner.state = .ready ∧ (s.lane l).outer.state = .ready := by
    cases h with
    | inner => exact ⟨ready, other⟩
    | outer => exact ⟨other, ready⟩
  unfold leaveStarting
  dsimp only
  rw [if_neg (by simp [both]), if_pos (by simp [both])]
  rfl

theorem leaveStarting_of_one (ready : ((s.lane l).head h).state = .ready)
    (other : ((s.lane l).head (otherHead h)).state = .faulted) (policy : (s.lane l).settings.faultPolicy = .single) :
    s.leaveStarting l = ((s.setLane l { s.lane l with state := .single }).raise .fault).askBand l := by
  have one : (s.lane l).inner.state = .ready ∧ (s.lane l).outer.state = .faulted
      ∨ (s.lane l).inner.state = .faulted ∧ (s.lane l).outer.state = .ready := by
    cases h with
    | inner => exact .inl ⟨ready, other⟩
    | outer => exact .inr ⟨other, ready⟩
  unfold leaveStarting
  dsimp only
  rcases one with ⟨inner, outer⟩ | ⟨inner, outer⟩
  · rw [if_neg (by simp [inner, outer]), if_neg (by simp [outer]), if_pos (by simp [inner, policy])]
    rfl
  · rw [if_neg (by simp [inner, outer]), if_neg (by simp [inner]), if_pos (by simp [outer, policy])]
    rfl

theorem leaveStarting_of_stop {a b : HeadState} (own : ((s.lane l).head h).state = a)
    (other : ((s.lane l).head (otherHead h)).state = b) (known : a ≠ .unknown ∧ b ≠ .unknown) (half : ¬ (a = .ready ∧ b = .ready))
    (stops : a = .ready ∨ b = .ready → (s.lane l).settings.faultPolicy = .stop) : s.leaveStarting l = s.enterStopped l := by
  unfold leaveStarting
  dsimp only
  cases h with
  | inner =>
    simp only [Lane.head, otherHead] at own other
    rw [own, other, if_neg (by simp [known]), if_neg (by simpa using half), if_neg (by simpa using fun one => by simp [stops one])]
  | outer =>
    simp only [Lane.head, otherHead] at own other
    rw [own, other, if_neg (by simp [known]), if_neg (by simpa using fun one two => half ⟨two, one⟩),
      if_neg (by simpa using fun one => by simp [stops (Or.symm one)])]

theorem takeIdent_of_awaited (position : HeadPos) (awaited : ((s.lane l).head h).identOut = true) :
    s.takeIdent l h position = (s.setLane l ((s.lane l).setHead h
      (if position = h then { (s.lane l).head h with state := .ready, outstanding := none, failures := 0 }
        else { (s.lane l).head h with state := .faulted, outstanding := none }))).leaveStarting l := by
  unfold takeIdent
  rw [if_pos awaited]
  split
  · rfl
  · rfl

end State

end Sys2Proof.Machine

/-! # IDENT replies, settled -/

namespace Sys2Proof.Proofs

open Sys2Proof Sys2Proof.Machine Sys2Proof.Machine.State

/-- Settles O33: the reply writes its head, and the two heads with the fault policy say whether the lane waits, asks or stops. -/
theorem identRepliesBringALaneIntoService : Obligations.IdentRepliesBringALaneIntoService := by
  unfold Obligations.IdentRepliesBringALaneIntoService
  intro s l h position message parsed out starting
  let x := s.lane l
  let v : HeadUnit := if position = h then { x.head h with state := .ready, outstanding := none, failures := 0 }
    else { x.head h with state := .faulted, outstanding := none }
  let y : Lane := x.setHead h v
  let u : State := s.setLane l y
  have uLane : u.lane l = y := lane_setLane_same ..
  have uHead : (u.lane l).head h = v := by rw [uLane, Lane.head_setHead_same]
  have uOther : (u.lane l).head (otherHead h) = x.head (otherHead h) := by rw [uLane, Lane.head_setHead_other]
  have settings (st : LaneState) : ({ y with state := st } : Lane).settings = x.settings := Lane.setHead_settings ..
  have probes (st : LaneState) : ({ y with state := st } : Lane).probes = x.probes := by
    show y.probes = x.probes
    rw [show y = _ from Lane.setHead_frame ..]
  have right (is : position = h) : v.state = .ready := by simp [v, is]
  have wrong (is : position ≠ h) : v.state = .faulted := by simp [v, is]
  have only : LanesOnly s (u.leaveStarting l).drive :=
    ((lanesOnly_setLane ..).trans (lanesOnly_leaveStarting ..)).trans (lanesOnly_drive _)
  have ran : exec (.identReply l h message) s = .next (u.leaveStarting l).drive := by
    rw [exec_identReply parsed, takeIdent_of_awaited position out]
  refine ⟨_, ran, only, ?_⟩
  intro other stops faultRaised
  have enters (is : position = h) (ready : other = .ready) :
      u.leaveStarting l = (s.setLane l { y with state := .inService }).askBand l := by
    rw [leaveStarting_of_ready (h := h) (by rw [uHead, right is]) (by rw [uOther]; exact ready), uLane, setLane_setLane]
  have one (half : position = h ∧ other = .faulted ∨ position ≠ h ∧ other = .ready) (goesOn : ¬ stops) :
      u.leaveStarting l = ((s.raise .fault).setLane l { y with state := .single }).askBand l := by
    have policy : (u.lane l).settings.faultPolicy = .single := by
      rw [uLane, show y.settings = x.settings from Lane.setHead_settings ..]
      revert goesOn
      show x.settings.faultPolicy ≠ .stop → _
      cases x.settings.faultPolicy <;> simp
    rcases half with ⟨is, faulted⟩ | ⟨is, ready⟩
    · rw [leaveStarting_of_one (h := h) (by rw [uHead, right is]) (by rw [uOther]; exact faulted) policy, uLane, setLane_setLane]
      rfl
    · rw [leaveStarting_of_one (h := otherHead h) (by rw [uOther]; exact ready) (by rw [otherHead_otherHead, uHead, wrong is]) policy,
        uLane, setLane_setLane]
      rfl
  have halts (mixed : position ≠ h ∧ other = .faulted
        ∨ stops ∧ (position = h ∧ other = .faulted ∨ position ≠ h ∧ other = .ready)) :
      u.leaveStarting l = u.enterStopped l := by
    have policy : stops → (u.lane l).settings.faultPolicy = .stop := fun stop => by
      rw [uLane, show y.settings = x.settings from Lane.setHead_settings ..]
      exact stop
    have own := congrArg HeadUnit.state uHead
    have beside := congrArg HeadUnit.state uOther
    rcases mixed with ⟨is, two⟩ | ⟨stop, ⟨is, two⟩ | ⟨is, two⟩⟩
    · exact leaveStarting_of_stop (own.trans (wrong is)) (beside.trans two) (by decide) (by decide) fun one => absurd one (by decide)
    · exact leaveStarting_of_stop (own.trans (right is)) (beside.trans two) (by decide) (by decide) fun _ => policy stop
    · exact leaveStarting_of_stop (own.trans (wrong is)) (beside.trans two) (by decide) (by decide) fun _ => policy stop
  have stopped (halt : u.leaveStarting l = u.enterStopped l) :
      ((u.leaveStarting l).drive.lane l).state = .stopped ∧ faultRaised := by
    obtain ⟨lane, -, raised⟩ := enterStopped_own u l
    refine ⟨?_, ?_⟩
    · rw [drive_lane_state, halt, lane]
      rfl
    · show (u.leaveStarting l).drive.link.notices.fault = true ∧ (u.leaveStarting l).drive.link.noticeLine = true
      rw [drive_link, halt]
      exact raised
  refine ⟨fun unknown => ?waits, fun is ready => ?enters, fun half => ?half, fun is faulted => stopped (halts (.inl ⟨is, faulted⟩)),
    fun idle => ?asks⟩
  case waits =>
    have stays : u.leaveStarting l = u := leaveStarting_of_unknown (h := otherHead h) (by rw [uOther]; exact unknown)
    rw [drive_lane_state, drive_head, stays, uHead]
    refine ⟨?_, fun is => ?_, fun is => ?_⟩
    · rw [uLane, Lane.setHead_state]
      exact starting
    · simp [v, is]
    · simp [v, is]
      rfl
  case enters =>
    rw [drive_lane_state, drive_link, enters is ready, (bandWork_askBand ..).state, (bandWork_askBand ..).link, lane_setLane_same]
    exact ⟨rfl, rfl⟩
  case half =>
    by_cases stop : stops
    · rw [if_pos stop]
      exact stopped (halts (.inr ⟨stop, half⟩))
    · rw [if_neg stop]
      show _ ∧ (u.leaveStarting l).drive.link.notices.fault = true ∧ (u.leaveStarting l).drive.link.noticeLine = true
      rw [drive_lane_state, drive_link, one half stop, (bandWork_askBand ..).state, (bandWork_askBand ..).link, lane_setLane_same]
      exact ⟨rfl, rfl, rfl⟩
  case asks =>
    intro z g taken entersAndAsks
    refine ⟨fun is ready => ?_, fun half goesOn => ?_⟩
    · have asked := askBand_setLane (s := s) (settings .inService) (probes .inService) idle
      rw [← enters is ready] at asked
      exact asked
    · have asked := askBand_setLane (s := s.raise .fault) (settings .single) (probes .single) idle
      rw [← one half goesOn] at asked
      exact asked

end Sys2Proof.Proofs

/-! # Failed attempts -/

namespace Sys2Proof.Machine

/-- A retry repeats the outstanding command with a new wait, and counts (04 R72, R74). -/
theorem HeadUnit.retry_eq {u : HeadUnit} {a : Attempt} (now : Time) (out : u.outstanding = some a) : u.retry now =
    { u with retries := u.retries + 1, rollover := u.rollover || u.retries == 0xFFFF#16
             outstanding := some { command := a.command, sentAt := now }, sent := u.sent ++ [a.command] } := by
  unfold retry
  rw [out]
  rfl

namespace State

variable {s : State} {l : LaneId} {h : HeadPos}

/-! ## An attempt fails (04 R72, R73) -/

/-- An attempt of a head just written that fails within the retry limit is made again. -/
theorem attemptFailed_within {u : HeadUnit} {a : Attempt} (out : u.outstanding = some a)
    (within : u.failures + 1 ≤ (s.lane l).settings.retryLimit) :
    (s.setLane l ((s.lane l).setHead h u)).attemptFailed l h = s.setLane l ((s.lane l).setHead h
      { u with failures := u.failures + 1, retries := u.retries + 1, rollover := u.rollover || u.retries == 0xFFFF#16
               outstanding := some { command := a.command, sentAt := s.hallTime }, sent := u.sent ++ [a.command] }) := by
  unfold attemptFailed
  simp only [modHead_eq, lane_setLane_same, setLane_setLane, Lane.setHead_setHead, Lane.head_setHead_same, Lane.setHead_settings]
  rw [if_neg (by omega), HeadUnit.retry_eq (a := a) _ (by exact out)]
  rfl

/-- One attempt beyond the retry limit faults the head. -/
theorem attemptFailed_beyond {u : HeadUnit} (beyond : (s.lane l).settings.retryLimit < u.failures + 1) :
    (s.setLane l ((s.lane l).setHead h u)).attemptFailed l h = (s.setLane l ((s.lane l).setHead h
      { u with state := .faulted, outstanding := none, abortOwed := false, failures := u.failures + 1
               sent := u.sent ++ [.abort u.seq] })).headFaulted l h := by
  unfold attemptFailed
  simp only [modHead_eq, lane_setLane_same, setLane_setLane, Lane.setHead_setHead, Lane.head_setHead_same, Lane.setHead_settings]
  rw [if_pos beyond]
  rfl

theorem exec_roundTimeout {a : Attempt} (out : ((s.lane l).head h).outstanding = some a)
    (passed : a.sentAt + (s.lane l).settings.roundTimeout ≤ s.hallTime) :
    exec (.roundTimeout l h) s = .next ((s.setLane l ((s.lane l).setHead h ((s.lane l).head h))).attemptFailed l h).drive := by
  have timedOut : s.timedOut l h = true := by
    unfold timedOut
    rw [out]
    exact decide_eq_true passed
  show Host.Outcome.next (if s.timedOut l h then (s.attemptFailed l h).drive else s) = _
  rw [if_pos timedOut, Lane.setHead_head_same, setLane_lane]

theorem exec_headMessageDiscarded {message : List Byte} (discarded : parseHeadMessage message = none) :
    exec (.headMessageDiscarded l h message) s = .next (s.discardMessage l h).drive := by
  show execHeadMessageDiscarded l h message s = _
  unfold execHeadMessageDiscarded
  rw [discarded]

theorem discardMessage_eq (s : State) (l : LaneId) (h : HeadPos) : s.discardMessage l h =
    let counted := s.setLane l ((s.lane l).setHead h
      { (s.lane l).head h with badChecks := ((s.lane l).head h).badChecks + 1 })
    if ((s.lane l).head h).outstanding = none then counted else counted.attemptFailed l h := by
  unfold discardMessage
  rw [modHead_eq]
  dsimp only
  rw [lane_setLane_same, Lane.head_setHead_same]
  cases ((s.lane l).head h).outstanding with
  | none => rfl
  | some a => rfl

/-! ## The flight on a head that has failed (05 R88, R100) -/

/-- A lane is written, and then its holder decides or does not. -/
def Writes (s : State) (l : LaneId) (x : Lane) (t : State) : Prop := t = s.setLane l x ∨ t = (s.setLane l x).decideNext l

/-- Of a lane written, a head that has failed is as it was, the other works if it did, and the state and the settings stay. -/
structure KeepsService (h : HeadPos) (z x : Lane) : Prop where
  own : x.head h = z.head h
  works : (z.head (otherHead h)).working = true → (x.head (otherHead h)).working = true
  state : x.state = z.state
  settings : x.settings = z.settings

theorem KeepsService.of_heads {z x : Lane} (h : HeadPos) (inner : x.inner = z.inner) (outer : x.outer = z.outer)
    (state : x.state = z.state) (settings : x.settings = z.settings) : KeepsService h z x :=
  ⟨Lane.head_congr inner outer h, fun works => by rwa [Lane.head_congr inner outer], state, settings⟩

theorem Writes.bandWork {t : State} {x : Lane} (written : s.Writes l x t) (kept : KeepsService h (s.lane l) x) : BandWork s t := by
  have lane := bandWork_setLane s l x kept.settings kept.state
  rcases written with rfl | rfl
  · exact lane
  · exact lane.trans (bandWork_decideNext ..)

/-- A head that has failed in a lane that goes on with the other one is left as it is. -/
theorem Writes.head {t : State} {x : Lane} (written : s.Writes l x t) (kept : KeepsService h (s.lane l) x)
    (state : (s.lane l).state ≠ .inService) (fails : ((s.lane l).head h).working = false)
    (works : ((s.lane l).head (otherHead h)).working = true) : (t.lane l).head h = (s.lane l).head h := by
  rcases written with rfl | rfl
  · rw [lane_setLane_same, kept.own]
  · have decided := decideNext_decided (s.setLane l x) l
    rw [lane_setLane_same] at decided
    rw [decided.head_of_single (by rwa [kept.state]) (by rwa [kept.own]) (kept.works works), kept.own]

/-- A round's half completes its cycle, or is the first of a PAIRED or the inner one of an ALTERNATE cycle. -/
theorem half_cases (form : Form) (inner outer buffer : Option Half) (half : Half) :
    (∃ r, CompletesCycle form inner outer buffer half r)
      ∨ (form = .paired ∧ (half.head = .inner → outer = none) ∧ (half.head = .outer → inner = none))
      ∨ form = .alternate ∧ half.head = .inner := by
  cases form with
  | paired =>
    cases head : half.head with
    | inner =>
      rcases outer with _ | o
      · exact .inr (.inl ⟨rfl, fun _ => rfl, fun other => by simp at other⟩)
      · exact .inl ⟨_, .inl ⟨rfl, head, o, rfl, rfl⟩⟩
    | outer =>
      rcases inner with _ | i
      · exact .inr (.inl ⟨rfl, fun other => by simp at other, fun _ => rfl⟩)
      · exact .inl ⟨_, .inr (.inl ⟨rfl, head, i, rfl, rfl⟩)⟩
  | alternate =>
    cases head : half.head with
    | inner => exact .inr (.inr ⟨rfl, rfl⟩)
    | outer => exact .inl ⟨_, .inr (.inr (.inl ⟨rfl, head, rfl⟩))⟩
  | single w => exact .inl ⟨_, .inr (.inr (.inr ⟨w, rfl, rfl⟩))⟩

theorem endProbe_of_empty (o : ProbeOutcome) (empty : (s.lane l).probes = []) : s.endProbe l o = s := by
  unfold endProbe
  rw [empty]
  split
  next heq => exact absurd heq (by simp)
  · rfl

theorem probeHeadEnded_of_empty {faulted : Bool} (byFault : Bool) (flight : (s.lane l).flight = .probe .alternate faulted)
    (empty : (s.lane l).probes = []) : s.probeHeadEnded l .inner byFault = s := by
  unfold probeHeadEnded probeOuter
  rw [flight, empty]

theorem writes_self (s : State) (l : LaneId) (h : HeadPos) : ∃ x, s.Writes l x s ∧ KeepsService h (s.lane l) x :=
  ⟨_, .inl (setLane_lane s l).symm, .of_heads h rfl rfl rfl rfl⟩

/-- The end of a round writes its lane, and the holder decides where the cycle is complete or its inner half buffered. -/
theorem roundEnded_writes (h : HeadPos) (half : Half) {form : Form} {inner outer : Option Half}
    (flight : (s.lane l).flight = .rounds form inner outer) :
    ∃ x, s.Writes l x (s.roundEnded l half) ∧ KeepsService h (s.lane l) x := by
  rcases half_cases form inner outer (s.lane l).buffer half with ⟨r, completes⟩ | ⟨rfl, innerFirst, outerFirst⟩ | ⟨rfl, head⟩
  · exact ⟨_, .inr (roundEnded_of_complete flight completes), .of_heads h rfl rfl rfl rfl⟩
  · exact ⟨_, .inl (roundEnded_of_first_half flight innerFirst outerFirst), .of_heads h rfl rfl rfl rfl⟩
  · exact ⟨_, .inr (roundEnded_of_inner_half flight head), .of_heads h rfl rfl rfl rfl⟩

theorem endProbe_writes (h : HeadPos) (o : ProbeOutcome) {form : Form} {faulted : Bool}
    (flight : (s.lane l).flight = .probe form faulted) : ∃ x, s.Writes l x (s.endProbe l o) ∧ KeepsService h (s.lane l) x := by
  rcases front : (s.lane l).probes with _ | ⟨e, queue⟩
  · rw [endProbe_of_empty o front]
    exact writes_self s l h
  · exact ⟨_, .inr (endProbe_eq o flight front), .of_heads h rfl rfl rfl rfl⟩

/-- What was in flight on a head that has failed ends, or goes on with the other head. -/
theorem flightFaulted_writes (s : State) (l : LaneId) (h : HeadPos) :
    ∃ x, s.Writes l x (s.flightFaulted l h) ∧ KeepsService h (s.lane l) x := by
  unfold flightFaulted
  split
  next flight => exact roundEnded_writes h _ flight
  next form faulted flight =>
    by_cases last : (form = .paired → ((s.lane l).head (otherHead h)).probeOut = false) ∧ (form = .alternate → h = .outer)
    · rw [probeHeadEnded_of_last true flight last.1 last.2]
      exact endProbe_writes h _ flight
    · cases form with
      | paired =>
        have out : ((s.lane l).head (otherHead h)).probeOut = true := by simpa using last
        exact ⟨_, .inl (probeHeadEnded_of_paired true flight out), .of_heads h rfl rfl rfl rfl⟩
      | alternate =>
        have inner : h = .inner := by
          cases h with
          | inner => rfl
          | outer => simp at last
        subst inner
        rcases front : (s.lane l).probes with _ | ⟨e, queue⟩
        · rw [probeHeadEnded_of_empty true flight front]
          exact writes_self s l .inner
        · exact ⟨_, .inl (probeHeadEnded_of_inner true flight front), rfl, fun _ => rfl, rfl, rfl⟩
      | single w => simp at last
  · exact writes_self s l h

theorem flightFaulted_of_rounds {form : Form} {inner outer : Option Half} (flight : (s.lane l).flight = .rounds form inner outer) :
    s.flightFaulted l h = s.roundEnded l (lossyHalf h s.hallTime) := by
  unfold flightFaulted
  rw [flight]

theorem flightFaulted_of_probe {form : Form} {faulted : Bool} (flight : (s.lane l).flight = .probe form faulted) :
    s.flightFaulted l h = s.probeHeadEnded l h true := by
  unfold flightFaulted
  rw [flight]

/-! ## What was in flight on a head that has failed, in a lane that goes on -/

end State

/-- What the fault of a head does to the flight of a lane that goes on with the other head: the head's half is lossy, and its probe
has found nothing (04 R80, 05 R88, R100). -/
structure FlightEnds (now : Time) (h : HeadPos) (x y : Lane) : Prop where
  delivers : ∀ form inner outer r, x.flight = .rounds form inner outer →
    CompletesCycle form inner outer x.buffer (lossyHalf h now) r →
    y.reports = x.reports ++ [r] ∧ y.counts.lossyRounds = x.counts.lossyRounds + 1
  waits : ∀ inner outer, x.flight = .rounds .paired inner outer → (h = .inner → outer = none) → (h = .outer → inner = none) →
    y.flight = .rounds .paired (if h = .inner then some (lossyHalf h now) else none)
        (if h = .outer then some (lossyHalf h now) else none)
      ∧ y.reports = x.reports ∧ y.counts.lossyRounds = x.counts.lossyRounds + 1
  buffers : ∀ inner outer, x.flight = .rounds .alternate inner outer → h = .inner →
    y.reports = x.reports ∧ y.counts.lossyRounds = x.counts.lossyRounds + 1
  fails : ∀ form faulted e queue, x.flight = .probe form faulted → x.probes = e :: queue →
    (form = .paired → (x.head (otherHead h)).probeOut = false) → (form = .alternate → h = .outer) →
    y.probes = queue ∧ y.awaited = x.awaited.drop 1
      ∧ y.results = x.results ++ [{ code := e.code, item := e.item, outcome := .failed
                                    live := (x.awaited.head?.map AwaitedProbe.live).getD false }]
  keepsProbe : ∀ faulted, x.flight = .probe .paired faulted → (x.head (otherHead h)).probeOut = true →
    y.flight = .probe .paired true ∧ y.probes = x.probes ∧ y.results = x.results ∧ y.awaited = x.awaited
  passesProbe : ∀ faulted e queue, x.flight = .probe .alternate faulted → x.probes = e :: queue → h = .inner →
    (y.flight = .probe .alternate true ∧ y.probes = x.probes ∧ y.results = x.results ∧ y.awaited = x.awaited)
      ∧ y.outer.awaited = some (false, (x.head (otherHead h)).seq + 1)

/-- The flight ends alike of a lane whose failed head and whose state were another. -/
theorem FlightEnds.of_lane {now : Time} {h : HeadPos} {x z y : Lane} (ends : FlightEnds now h z y)
    (frame : z = { x with inner := z.inner, outer := z.outer, state := z.state })
    (other : z.head (otherHead h) = x.head (otherHead h)) : FlightEnds now h x y := by
  have flight : z.flight = x.flight := by rw [frame]
  have buffer : z.buffer = x.buffer := by rw [frame]
  have reports : z.reports = x.reports := by rw [frame]
  have counts : z.counts = x.counts := by rw [frame]
  have probes : z.probes = x.probes := by rw [frame]
  have awaited : z.awaited = x.awaited := by rw [frame]
  have results : z.results = x.results := by rw [frame]
  obtain ⟨delivers, waits, buffers, fails, keepsProbe, passesProbe⟩ := ends
  rw [flight, buffer, reports, counts] at delivers
  rw [flight, reports, counts] at waits buffers
  rw [flight, probes, awaited, results, other] at fails keepsProbe passesProbe
  exact ⟨delivers, waits, buffers, fails, keepsProbe, passesProbe⟩

theorem FlightEnds.driven {now : Time} {h : HeadPos} {x y y' : Lane} (ends : FlightEnds now h x y) (driven : OutputsOnly y y') :
    FlightEnds now h x y' := by
  rw [driven]
  obtain ⟨delivers, waits, buffers, fails, keepsProbe, passesProbe⟩ := ends
  exact ⟨delivers, waits, buffers, fails, keepsProbe, passesProbe⟩

namespace State

variable {s : State} {l : LaneId} {h : HeadPos}

theorem flightFaulted_ends (works : ((s.lane l).head (otherHead h)).working = true) :
    FlightEnds s.hallTime h (s.lane l) ((s.flightFaulted l h).lane l) where
  delivers _ _ _ r flight completes := by
    rw [flightFaulted_of_rounds flight, roundEnded_of_complete flight completes]
    have decided := decideNext_decided (s.setLane l ((s.lane l).delivered (lossyHalf h s.hallTime) r)) l
    rw [lane_setLane_same] at decided
    obtain ⟨-, reports, counts⟩ := decided.undelivered (.inl rfl)
    rw [reports, counts]
    exact ⟨rfl, rfl⟩
  waits _ _ flight innerFirst outerFirst := by
    rw [flightFaulted_of_rounds flight, roundEnded_of_first_half flight innerFirst outerFirst, lane_setLane_same]
    exact ⟨rfl, rfl, rfl⟩
  buffers _ _ flight is := by
    subst is
    let half := lossyHalf .inner s.hallTime
    rw [flightFaulted_of_rounds flight, roundEnded_of_inner_half flight rfl]
    have decided := decideNext_decided (s.setLane l { (s.lane l).counted half with buffer := some half, flight := .nothing }) l
    rw [lane_setLane_same] at decided
    obtain ⟨-, reports, counts⟩ := decided.undelivered (.inr works)
    rw [reports, counts]
    exact ⟨rfl, rfl⟩
  fails _ _ e queue flight front alone last := by
    rw [flightFaulted_of_probe flight, probeHeadEnded_of_last true flight alone last, Bool.or_true, if_pos rfl,
      endProbe_eq _ flight front]
    have decided := decideNext_decided (s.setLane l ((s.lane l).probed e queue .failed)) l
    rw [lane_setLane_same] at decided
    exact ⟨decided.sameWork.probes, decided.sameWork.awaited, decided.sameWork.results⟩
  keepsProbe _ flight out := by
    rw [flightFaulted_of_probe flight, probeHeadEnded_of_paired true flight out, lane_setLane_same, Bool.or_true]
    exact ⟨rfl, rfl, rfl, rfl⟩
  passesProbe _ _ _ flight front is := by
    subst is
    rw [flightFaulted_of_probe flight, probeHeadEnded_of_inner true flight front, lane_setLane_same, Bool.or_true]
    exact ⟨⟨rfl, rfl, rfl, rfl⟩, rfl⟩

/-! ## The lane of a head that has failed (04 R79, R80) -/

theorem headFaulted_of_starting (starting : (s.lane l).state = .starting) : s.headFaulted l h = s.leaveStarting l := by
  unfold headFaulted
  rw [starting]

theorem headFaulted_of_goes_on (state : (s.lane l).state = .inService) (policy : (s.lane l).settings.faultPolicy = .single) :
    s.headFaulted l h = ((s.setLane l { s.lane l with state := .single }).raise .fault).flightFaulted l h := by
  unfold headFaulted
  rw [state, policy]
  rfl

theorem headFaulted_of_stop (state : (s.lane l).state = .inService ∧ (s.lane l).settings.faultPolicy = .stop
    ∨ (s.lane l).state = .single) : s.headFaulted l h = (s.countFaultedRound l h).enterStopped l := by
  unfold headFaulted
  rcases state with ⟨state, policy⟩ | state
  · rw [state, policy]
  · rw [state]

/-- Counting the lossy half of a round whose lane stops changes the lossy rounds counter alone, if it changes anything. -/
theorem countFaultedRound_eq (s : State) (l : LaneId) (h : HeadPos) : ∃ n, s.countFaultedRound l h =
    s.setLane l { s.lane l with counts := { (s.lane l).counts with lossyRounds := n } } := by
  unfold countFaultedRound
  split
  · rw [countHalf_eq]
    exact ⟨_, rfl⟩
  · exact ⟨_, (setLane_lane s l).symm⟩
  · exact ⟨_, (setLane_lane s l).symm⟩

/-! ### A lane with a head that has just failed -/

section

variable (faulted : ((s.lane l).head h).state = .faulted)
include faulted

/-- The lane goes on with its other head: it keeps the failed one as it is, and raises FAULT. -/
theorem headFaulted_keeps_service (policy : (s.lane l).settings.faultPolicy = .single)
    (state : (s.lane l).state = .inService ∧ ((s.lane l).head (otherHead h)).working = true
      ∨ (s.lane l).state = .starting ∧ ((s.lane l).head (otherHead h)).state = .ready) :
    ((s.headFaulted l h).lane l).head h = (s.lane l).head h ∧ ((s.headFaulted l h).lane l).state = .single
      ∧ (s.headFaulted l h).link = (s.raise .fault).link := by
  let r := (s.setLane l { s.lane l with state := .single }).raise .fault
  have lane : r.lane l = { s.lane l with state := .single } := lane_setLane_same ..
  have heads (k : HeadPos) : (r.lane l).head k = (s.lane l).head k := by
    rw [lane]
    exact Lane.head_congr rfl rfl k
  have single : (r.lane l).state = .single := by rw [lane]
  have notBoth : (r.lane l).state ≠ .inService := by simp [single]
  have fails : ((r.lane l).head h).working = false := by simp [heads, HeadUnit.working, faulted]
  have works : ((r.lane l).head (otherHead h)).working = true := by
    rw [heads]
    rcases state with ⟨-, works⟩ | ⟨-, ready⟩
    · exact works
    · simp [HeadUnit.working, ready]
  rcases state with ⟨inService, -⟩ | ⟨starting, ready⟩
  · obtain ⟨x, written, service⟩ := flightFaulted_writes r l h
    have work := written.bandWork service
    rw [headFaulted_of_goes_on inService policy, written.head service notBoth fails works, heads, work.state, single, work.link]
    exact ⟨rfl, rfl, rfl⟩
  · have work := bandWork_askBand r l
    rw [headFaulted_of_starting starting, leaveStarting_of_one ready (by rwa [otherHead_otherHead]) policy,
      askBand_head_of_single notBoth fails works, heads, work.state, single, work.link]
    exact ⟨rfl, rfl, rfl⟩

/-- The lane stops, its lossy half counted where a round was in flight. -/
theorem headFaulted_stops
    (state : (s.lane l).state = .inService ∨ (s.lane l).state = .single ∨ (s.lane l).state = .starting)
    (known : ¬ ((s.lane l).state = .starting ∧ ((s.lane l).head (otherHead h)).state = .unknown))
    (halts : ¬ (((s.lane l).state = .inService ∨ (s.lane l).state = .starting ∧ ((s.lane l).head (otherHead h)).state = .ready)
      ∧ (s.lane l).settings.faultPolicy = .single)) :
    ∃ n, s.headFaulted l h =
      (s.setLane l { s.lane l with counts := { (s.lane l).counts with lossyRounds := n } }).enterStopped l := by
  have stopPolicy (not : (s.lane l).settings.faultPolicy ≠ .single) : (s.lane l).settings.faultPolicy = .stop := by
    revert not
    cases (s.lane l).settings.faultPolicy <;> simp
  obtain ⟨n, counted⟩ := countFaultedRound_eq s l h
  rcases state with inService | single | starting
  · have stop := stopPolicy fun policy => halts ⟨.inl inService, policy⟩
    exact ⟨n, by rw [← counted, headFaulted_of_stop (.inl ⟨inService, stop⟩)]⟩
  · exact ⟨n, by rw [← counted, headFaulted_of_stop (.inr single)]⟩
  · refine ⟨(s.lane l).counts.lossyRounds, ?_⟩
    rw [setLane_lane, headFaulted_of_starting starting]
    exact leaveStarting_of_stop faulted rfl ⟨by decide, fun unknown => known ⟨starting, unknown⟩⟩ (by simp)
      fun one => stopPolicy fun policy => halts ⟨.inr ⟨starting, one.resolve_left (by decide)⟩, policy⟩

end

end State

/-- A lane that stops by the fault of a head leaves that head as it is, and aborts and counts what is out on the other one. -/
theorem Lane.stopped_of_faulted (x : Lane) (h : HeadPos) {v : HeadUnit} (n : BitVec 32) (ended : v.outstanding = none) :
    let y := ({ x.setHead h v with counts := { (x.setHead h v).counts with lossyRounds := n } } : Lane).stopped
    let other := x.head (otherHead h)
    y.head h = v
      ∧ y = { x with
          state := .stopped, inner := y.inner, outer := y.outer, flight := .nothing, buffer := none, ask := false, probes := []
          awaited := x.awaited.drop x.probes.length
          results := x.results ++ x.probes.zipIdx.map fun e => e.1.result .failed x.awaited[e.2]?
          counts := y.counts }
      ∧ (other.roundOut = true ∨ other.probeOut = true →
          y.head (otherHead h) = { other with state := .ready, outstanding := none, abortOwed := true })
      ∧ y.counts = { x.counts with
          lossyRounds := n, abortedRounds := x.counts.abortedRounds + (if other.roundOut then 1 else 0) } := by
  intro y other
  have idle : v.roundOut = false ∧ v.probeOut = false := by simp [HeadUnit.roundOut, HeadUnit.probeOut, ended]
  have kept : v.abortCommand = v := by simp [HeadUnit.abortCommand, idle]
  have heads (k : HeadPos) : y.head k = ((x.setHead h v).head k).abortCommand := by
    rw [head_stopped]
    exact congrArg _ (head_congr rfl rfl k)
  refine ⟨by rw [heads, head_setHead_same, kept], by cases h <;> rfl, fun out => ?_, ?_⟩
  · rw [heads, head_setHead_other, HeadUnit.abortCommand_eq, if_pos (Or.symm out)]
  · have rounds : (x.setHead h v).roundsOut = if other.roundOut then 1 else 0 := by
      cases h with
      | inner =>
        have sum : (x.setHead .inner v).roundsOut = (if v.roundOut then 1 else 0) + if x.outer.roundOut then 1 else 0 := rfl
        rw [sum, idle.1]
        exact Nat.zero_add _
      | outer =>
        have sum : (x.setHead .outer v).roundsOut = (if x.inner.roundOut then 1 else 0) + if v.roundOut then 1 else 0 := rfl
        rw [sum, idle.1]
        exact Nat.add_zero _
    have aborted : BitVec.ofNat 32 (x.setHead h v).roundsOut = if other.roundOut then 1 else 0 := by
      rw [rounds]
      split <;> rfl
    rw [← aborted]
    cases h <;> rfl

/-- A head whose attempts have run out (04 R73). -/
def HeadUnit.exhausted (badChecks : BitVec 32) (u : HeadUnit) : HeadUnit :=
  { u with state := .faulted, outstanding := none, abortOwed := false, failures := u.failures + 1, badChecks := badChecks
           sent := u.sent ++ [.abort u.seq] }

/-- An attempt beyond the retry limit, failed by a timeout or by a message discarded, faults its head. -/
theorem State.exec_failed_beyond {s : State} {l : LaneId} {h : HeadPos} {message : List Byte} {c : Instr} {a : Attempt}
    (out : ((s.lane l).head h).outstanding = some a) (beyond : (s.lane l).settings.retryLimit < ((s.lane l).head h).failures + 1)
    (how : c = .roundTimeout l h ∧ a.sentAt + (s.lane l).settings.roundTimeout ≤ s.hallTime
      ∨ c = .headMessageDiscarded l h message ∧ parseHeadMessage message = none) :
    exec c s = .next ((s.setLane l ((s.lane l).setHead h (((s.lane l).head h).exhausted
      (if c = .roundTimeout l h then ((s.lane l).head h).badChecks else ((s.lane l).head h).badChecks + 1)))).headFaulted l h).drive := by
  rcases how with ⟨rfl, passed⟩ | ⟨rfl, discarded⟩
  · rw [exec_roundTimeout out passed, attemptFailed_beyond beyond, if_pos rfl]
    rfl
  · rw [exec_headMessageDiscarded discarded, discardMessage_eq, if_neg fun idle => by simp [idle] at out,
      if_neg (by simp : Instr.headMessageDiscarded l h message ≠ .roundTimeout l h)]
    exact congrArg (fun t => Host.Outcome.next (State.drive t))
      (attemptFailed_beyond (u := { (s.lane l).head h with badChecks := ((s.lane l).head h).badChecks + 1 }) beyond)

end Sys2Proof.Machine

namespace Sys2Proof.Proofs

open Sys2Proof Sys2Proof.Machine Sys2Proof.Machine.State

/-- Settles O38: within the limit the command is repeated; beyond it the head is faulted, and the lane waits, goes on with the other
head, where its flight ends by `FlightEnds`, or stops. -/
theorem failedAttemptsAreRetriedOrFaultTheHead : Obligations.FailedAttemptsAreRetriedOrFaultTheHead := by
  unfold Obligations.FailedAttemptsAreRetriedOrFaultTheHead
  refine ⟨fun s l h message => ?retried, ?faulted⟩
  case retried =>
    intro u retried bad put
    refine ⟨fun a out within => ⟨fun passed => ?_, fun discarded => ?_⟩, fun idle discarded => ?_⟩
    · rw [exec_roundTimeout out passed, attemptFailed_within out within]
    · rw [exec_headMessageDiscarded discarded, discardMessage_eq, if_neg fun idle => by simp [u, idle] at out]
      exact congrArg (fun t => Host.Outcome.next t.drive) (attemptFailed_within (u := bad) out within)
    · rw [exec_headMessageDiscarded discarded, discardMessage_eq, if_pos idle]
  case faulted =>
    intro s l h message c a x u other out beyond how service waits goesOn
    let v := u.exhausted (if c = .roundTimeout l h then u.badChecks else u.badChecks + 1)
    let r := s.setLane l (x.setHead h v)
    have lane : r.lane l = x.setHead h v := lane_setLane_same ..
    have frame : r.lane l = { x with inner := (r.lane l).inner, outer := (r.lane l).outer } := by
      rw [lane]
      exact Lane.setHead_frame ..
    have rOwn : (r.lane l).head h = v := by rw [lane, Lane.head_setHead_same]
    have rOther : (r.lane l).head (otherHead h) = other := by rw [lane, Lane.head_setHead_other]
    have rState : (r.lane l).state = x.state := by rw [frame]
    have rPolicy : (r.lane l).settings.faultPolicy = x.settings.faultPolicy := by rw [frame]
    have rFaulted : ((r.lane l).head h).state = .faulted := by
      rw [rOwn]
      rfl
    have only : LanesOnly s (r.headFaulted l h).drive :=
      ((lanesOnly_setLane ..).trans (lanesOnly_headFaulted ..)).trans (lanesOnly_drive _)
    have wWaits (waiting : waits) : r.headFaulted l h = r :=
      (headFaulted_of_starting (rState.trans waiting.1)).trans
        (leaveStarting_of_unknown (h := otherHead h) (by rw [rOther, waiting.2]))
    have kept (goes : goesOn) : ((r.headFaulted l h).lane l).head h = v ∧ ((r.headFaulted l h).lane l).state = .single
        ∧ (r.headFaulted l h).link = (r.raise .fault).link := by
      rw [← rOwn]
      refine headFaulted_keeps_service rFaulted (rPolicy.trans goes.2) ?_
      rw [rState, rOther]
      refine goes.1.imp (fun inService => ⟨inService, ?_⟩) id
      simpa [inService] using service
    have halted (known : ¬ waits) (halts : ¬ goesOn) : ∃ n,
        (r.headFaulted l h).lane l = ({ x.setHead h v with counts := { (x.setHead h v).counts with lossyRounds := n } } : Lane).stopped
          ∧ (r.headFaulted l h).holds l = false ∧ (r.headFaulted l h).link.notices.fault = true
          ∧ (r.headFaulted l h).link.noticeLine = true := by
      obtain ⟨n, stops⟩ := headFaulted_stops (s := r) rFaulted (by rw [rState]; exact service.imp_left And.left)
        (by rwa [rState, rOther]) (by rwa [rState, rOther, rPolicy])
      have own := enterStopped_own (r.setLane l { r.lane l with counts := { (r.lane l).counts with lossyRounds := n } }) l
      rw [← stops, lane_setLane_same, lane] at own
      exact ⟨n, own⟩
    refine ⟨_, exec_failed_beyond out beyond how, only, ?own, ?waits, ?raised,
      fun goes => (drive_lane_state ..).trans (kept goes).2.1, ?stopped, ?flight⟩
    case own =>
      rw [drive_head]
      by_cases waiting : waits
      · exact (congrArg (fun t : State => (t.lane l).head h) (wWaits waiting)).trans rOwn
      · by_cases goes : goesOn
        · exact (kept goes).1
        · obtain ⟨n, stopped, -⟩ := halted waiting goes
          exact (congrArg (Lane.head · h) stopped).trans (Lane.stopped_of_faulted x h (v := v) n rfl).1
    case waits =>
      intro waiting
      rw [drive_lane_state, drive_link]
      have same : r.headFaulted l h = r := wWaits waiting
      exact ⟨(congrArg (fun t : State => (t.lane l).state) same).trans (rState.trans waiting.1),
        (congrArg State.link same).trans (show r.link = s.link from rfl)⟩
    case raised =>
      intro known
      rw [drive_link]
      by_cases goes : goesOn
      · rw [(kept goes).2.2]
        exact ⟨rfl, rfl⟩
      · obtain ⟨n, -, -, raised⟩ := halted known goes
        exact raised
    case stopped =>
      intro known halts
      obtain ⟨n, stopped, holder, -⟩ := halted known halts
      obtain ⟨-, frame, aborted, counts⟩ := Lane.stopped_of_faulted x h (v := v) n rfl
      rw [drive_head, drive_holds, drive_lane, stopped]
      generalize ({ x.setHead h v with counts := { (x.setHead h v).counts with lossyRounds := n } } : Lane).stopped = st
        at frame aborted counts
      have abortedRounds := congrArg LaneCounts.abortedRounds counts
      have cycles := congrArg LaneCounts.cycles counts
      rw [frame] at abortedRounds cycles ⊢
      exact ⟨rfl, rfl, rfl, rfl, holder, rfl, rfl, rfl, aborted, abortedRounds, rfl, cycles⟩
    case flight =>
      intro inService goes lossy y delivers keeps waitsOn
      let r' := (r.setLane l { r.lane l with state := .single }).raise .fault
      have ends : FlightEnds s.hallTime h x y := by
        have went : r.headFaulted l h = r'.flightFaulted l h :=
          headFaulted_of_goes_on (rState.trans inService) (rPolicy.trans goes.2)
        have start : r'.lane l = { r.lane l with state := .single } := lane_setLane_same ..
        have other' : (r'.lane l).head (otherHead h) = other := by
          rw [start, ← rOther]
          exact Lane.head_congr rfl rfl _
        have works : ((r'.lane l).head (otherHead h)).working = true := by
          rw [other']
          simpa [inService] using service
        have ends : FlightEnds s.hallTime h (r'.lane l) ((r'.flightFaulted l h).lane l) := flightFaulted_ends works
        rw [← went] at ends
        exact (ends.of_lane (by rw [start, frame]) other').driven (drive_lane _ l)
      refine ⟨fun i o flight => ⟨fun is => ⟨fun b full => ?_, fun none => ?_⟩, fun is => ⟨fun b full => ?_, fun none => ?_⟩⟩,
        fun i o flight => ⟨fun is => ?_, ends.buffers i o flight⟩, fun form faulted e queue flight front => ?_⟩
      · exact ends.delivers _ _ _ _ flight (.inl ⟨rfl, is, b, full, rfl⟩)
      · have ended := ends.waits _ _ flight (fun _ => none) (fun other => by simp [is] at other)
        rwa [if_pos is, if_neg (by simp [is])] at ended
      · exact ends.delivers _ _ _ _ flight (.inr (.inl ⟨rfl, is, b, full, rfl⟩))
      · have ended := ends.waits _ _ flight (fun other => by simp [is] at other) (fun _ => none)
        rwa [if_neg (by simp [is]), if_pos is] at ended
      · exact ends.delivers _ _ _ _ flight (.inr (.inr (.inl ⟨rfl, is, rfl⟩)))
      · have fails := ends.fails _ _ _ _ flight front
        refine ⟨fun is out => ?_, fun is alone => fails (fun _ => alone) (by simp [is]),
          fun is outer => fails (by simp [is]) fun _ => outer, fun is inner => ?_⟩
        · exact ends.keepsProbe _ (is ▸ flight) out
        · have passes := ends.passesProbe _ _ _ (is ▸ flight) front inner
          rwa [inner] at passes

end Sys2Proof.Proofs

/-! # Lanes started and restarted by command -/

namespace Sys2Proof.Machine

/-! ## The requests that name a lane (04 R82 to R84) -/

theorem laneOfNumber_val (l : LaneId) : laneOfNumber l.val = some l := dif_pos l.isLt

theorem laneOfNumber_of_high {n : Nat} (high : 7 < n) : laneOfNumber n = none := dif_neg (by omega)

namespace State

variable {s : State} {p : PortId} {src : Source} {kind : Byte} {lane : Nat}

theorem inStanding_iff (s : State) (src : Source) : s.inStanding src = true ↔ ∀ d, src = .desk d → s.standing[d] ≠ none := by
  rw [← Bool.not_eq_false, inStanding_eq_false_iff]
  simp

theorem withLane_val (s : State) (kind : Byte) (l : LaneId) (act : LaneId → State) : s.withLane kind l.val act = act l := by
  unfold withLane
  rw [laneOfNumber_val]

theorem withLane_of_high (high : 7 < lane) (act : LaneId → State) :
    s.withLane kind lane act = s.replyOn .link kind (codeReply .badValue) := by
  unfold withLane
  rw [laneOfNumber_of_high high]
  rfl

theorem laneRequest_val (l : LaneId) (standing : s.inStanding src = true) (act : LaneId → State × List Byte) :
    s.laneRequest p src kind l.val act = ((act l).1.replyOn p kind (act l).2).drive := by
  unfold laneRequest
  rw [laneOfNumber_val]
  exact if_pos standing

theorem laneRequest_of_high (high : 7 < lane) (act : LaneId → State × List Byte) :
    s.laneRequest p src kind lane act = s.replyOn p kind (codeReply .badValue) := by
  unfold laneRequest
  rw [laneOfNumber_of_high high]

theorem laneRequest_of_no_standing (low : lane ≤ 7) (standing : s.inStanding src = false) (act : LaneId → State × List Byte) :
    s.laneRequest p src kind lane act = s.replyOn p kind (codeReply .noStanding) := by
  unfold laneRequest
  rw [show laneOfNumber lane = some _ from dif_pos (Nat.lt_succ_of_le low)]
  exact if_neg (by simp [standing])

theorem exec_enableLane (taken : s.link.work = .taken .link kind (.enableLane lane)) :
    exec .enableLane s = .next (s.withLane kind lane fun l =>
      if (s.lane l).state = .disabled then ((s.startLane l).replyOn .link kind (codeReply .done)).drive
      else s.replyOn .link kind (codeReply .busy)) := by
  show execEnableLane s = _
  unfold execEnableLane serveLink
  rw [serve_of_taken (p := .link) taken]
  simp only [beq_iff_eq]
  rfl

theorem exec_disableLane (taken : s.link.work = .taken .link kind (.disableLane lane)) :
    exec .disableLane s = .next (s.withLane kind lane fun l => ((s.disableLane l).replyOn .link kind (codeReply .done)).drive) := by
  show execDisableLane s = _
  unfold execDisableLane serveLink
  rw [serve_of_taken (p := .link) taken]
  rfl

theorem exec_restartLane (taken : s.workOf p = .taken src kind (.restartLane lane)) :
    exec (.restartLane p) s = .next (s.laneRequest p src kind lane fun l => (s.restartLane l, codeReply .done)) := by
  show execRestartLane p s = _
  unfold execRestartLane serveRestartLane
  rw [serve_of_taken taken]
  rfl

/-- A lane that starts sends IDENT to both heads, each after the ABORT that it owes (04 R76, R82). -/
theorem startLane_eq (s : State) (l : LaneId) : s.startLane l = s.setLane l { s.lane l with
    state := .starting, inner := (s.lane l).inner.ident s.hallTime, outer := (s.lane l).outer.ident s.hallTime } := rfl

theorem restartLane_of_disabled {l : LaneId} (disabled : (s.lane l).state = .disabled) : s.restartLane l = s.startLane l :=
  if_pos (beq_iff_eq.2 disabled)

theorem disableLane_of_disabled {l : LaneId} (disabled : (s.lane l).state = .disabled) : s.disableLane l = s :=
  if_pos (beq_iff_eq.2 disabled)

end State

end Sys2Proof.Machine

namespace Sys2Proof.Proofs

open Sys2Proof Sys2Proof.Machine Sys2Proof.Machine.State

/-- Settles O31: a number that names no lane is refused, and then ENABLE LANE by the state of its lane, RESTART LANE by the standing
of its desk. -/
theorem laneStartsAndRefusals : Obligations.LaneStartsAndRefusals := by
  unfold Obligations.LaneStartsAndRefusals
  refine ⟨fun s kind lane taken => ⟨fun high => ?_, fun l named => ?_⟩, fun s p src kind lane => ⟨fun taken => ⟨fun high => ?_,
    fun l named disabled => ?_⟩, fun taken => ?restart⟩⟩
  · rw [exec_enableLane taken, withLane_of_high high]
  · subst named
    intro started
    refine ⟨fun enabled => ?_, fun disabled => ?_⟩
    · rw [exec_enableLane taken, withLane_val, if_neg enabled]
    · rw [exec_enableLane taken, withLane_val, if_pos disabled, startLane_eq, HeadUnit.ident_eq, HeadUnit.ident_eq]
  · rw [exec_disableLane taken, withLane_of_high high]
  · subst named
    rw [exec_disableLane taken, withLane_val, disableLane_of_disabled disabled]
  case restart =>
    intro standing
    refine ⟨fun high => ?_, fun low absent => ?_, fun l named present disabled => ?_⟩
    · rw [exec_restartLane taken, laneRequest_of_high high]
    · rw [exec_restartLane taken, laneRequest_of_no_standing low]
      rwa [← Bool.not_eq_true, inStanding_iff]
    · subst named
      rw [exec_restartLane taken, laneRequest_val l ((inStanding_iff s src).2 present), restartLane_of_disabled disabled]

end Sys2Proof.Proofs

/-! # Lanes that leave service -/

namespace Sys2Proof.Machine

/-! ## The lane that leaves service (04 R83) -/

/-- A head whose lane leaves service owes an ABORT where its ROUND or PROBE was out (04 R77, R83). -/
theorem HeadUnit.abortCommand_leave (u : HeadUnit) : u.abortCommand.leave =
    { u with state := .unknown, outstanding := none, failures := 0, abortOwed := u.abortOwed || u.roundOut || u.probeOut } := by
  unfold leave
  rw [abortCommand_eq]
  split
  next out =>
    rcases out with probe | round
    · simp [probe]
    · simp [round]
  next none =>
    simp only [not_or, Bool.not_eq_true] at none
    simp [none]

namespace Lane

/-- A lane that has left service, its exits without a verdict counted as dropped. -/
def left (dropped : Nat) (x : Lane) : Lane :=
  { x.swept with
    toJudge := [], awaited := []
    counts := { x.swept.counts with dropped := x.swept.counts.dropped + BitVec.ofNat 32 dropped } }

variable (x : Lane) (dropped : Nat)

theorem head_left (h : HeadPos) : (x.left dropped).head h = (x.head h).abortCommand.leave := by cases h <;> rfl

theorem ofNat_roundsOut :
    BitVec.ofNat 32 x.roundsOut = (if x.inner.roundOut then 1 else 0) + (if x.outer.roundOut then 1 else 0) := by
  unfold roundsOut
  rw [BitVec.ofNat_add, apply_ite (BitVec.ofNat 32), apply_ite (BitVec.ofNat 32)]
  rfl

theorem left_counts : (x.left dropped).counts = { x.counts with
    dropped := x.counts.dropped + BitVec.ofNat 32 dropped
    abortedRounds := x.counts.abortedRounds + (if x.inner.roundOut then 1 else 0) + (if x.outer.roundOut then 1 else 0) } := by
  rw [BitVec.add_assoc, ← ofNat_roundsOut]
  rfl

end Lane

namespace State

variable {s : State} {l : LaneId}

/-! ## The band of a lane that no longer asks -/

/-- A lane written that does not ask releases the band it holds into GUARD, or with no guard gap to a waiting lane or to FREE. -/
theorem releaseIfHeld_bands {x : Lane} (settings : x.settings = (s.lane l).settings) (unasked : x.ask = false) :
    let t := (s.setLane l x).releaseIfHeld l
    let g := s.groupOf l
    (s.holds l = false → t = s.setLane l x) ∧ (∀ k, k ≠ g → t.arbiter k = s.arbiter k)
      ∧ (s.holds l = true → s.hall.guardGap ≠ 0 →
          t.arbiter g = { s.arbiter g with band := .guarding, guardEnd := s.hallTime + s.hall.guardGap })
      ∧ (s.holds l = true → s.hall.guardGap = 0 →
          (∀ m, ¬ s.WaitsBeside l m) ∧ t.arbiter g = { s.arbiter g with band := .free, guardEnd := s.hallTime }
            ∨ ∃ m, s.WaitsBeside l m
                ∧ ((∃ k, s.WaitsBeside l k ∧ (s.lane k).probes ≠ []) → s.WaitsBeside l m ∧ (s.lane m).probes ≠ [])
                ∧ (∀ k, s.WaitsBeside l k →
                    (s.WaitsBeside l m ∧ (s.lane m).probes ≠ [] → s.WaitsBeside l k ∧ (s.lane k).probes ≠ []) →
                    (m - searchStart (s.arbiter g).lastHolder).val ≤ (k - searchStart (s.arbiter g).lastHolder).val)
                ∧ t.arbiter g = { band := .held m, guardEnd := s.hallTime, lastHolder := some m
                                  tenureCount := if (s.lane m).probes = [] then 1 else 0 }) := by
  intro t g
  have waitsIff (m : LaneId) : (s.setLane l x).Waits g m ↔ s.WaitsBeside l m := waits_setLane_of_unasked settings unasked
  have urgentIff (m : LaneId) : (s.setLane l x).WaitsUrgently g m ↔ s.WaitsBeside l m ∧ (s.lane m).probes ≠ [] := by
    unfold WaitsUrgently
    rw [waitsIff]
    refine and_congr_right fun waits => ?_
    rw [lane_setLane_other _ _ waits.1]
  have released (holder : s.holds l = true) : t = (s.setLane l x).release g := by
    show State.releaseIfHeld _ _ = _
    unfold releaseIfHeld
    rw [holds_setLane settings, if_pos holder, groupOf_setLane settings]
  have idle (free : s.holds l = false) : t = s.setLane l x := by
    show State.releaseIfHeld _ _ = _
    unfold releaseIfHeld
    rw [holds_setLane settings, if_neg (by simp [free])]
  have atOnce (gap : s.hall.guardGap = 0) := release_at_once (s := s.setLane l x) gap g
  refine ⟨idle, fun k other => ?_, fun holder gap => ?_, fun holder gap => ?_⟩
  · cases holder : s.holds l with
    | false => rw [idle holder, arbiter_setLane]
    | true =>
      rw [released holder]
      by_cases gap : s.hall.guardGap = 0
      · rcases atOnce gap with ⟨-, free⟩ | ⟨m, -, granted⟩
        · rw [free, arbiter_setBand, if_neg other, arbiter_setLane]
        · rw [granted, arbiter_setLane, arbiter_setBand, if_neg other, arbiter_setLane]
      · rw [release_of_gap (by exact gap), arbiter_setBand, if_neg other, arbiter_setLane]
  · rw [released holder, release_of_gap (by exact gap), arbiter_setBand_same]
    rfl
  · rw [released holder]
    rcases atOnce gap with ⟨none, free⟩ | ⟨m, ⟨waits, urgent, first⟩, granted⟩
    · refine .inl ⟨fun m waits => none m ((waitsIff m).2 waits), ?_⟩
      rw [free, arbiter_setBand_same]
      rfl
    · simp only [urgentIff, waitsIff] at waits urgent first
      refine .inr ⟨m, waits, urgent, first, ?_⟩
      rw [granted, arbiter_setLane, arbiter_setBand_same]
      unfold grantedArbiter
      rw [lane_setLane_other _ _ waits.1]
      rfl

/-! ## The judgements of a lane that leaves service (07 R146) -/

/-- An offer waits where one waited, or is of an item of the asking queue. -/
theorem offerJudge_claim {i : Item} {m : LaneId} (offered : s.offerJudge.port.judge = some (i, m)) :
    s.port.judge = some (i, m) ∨ i ∈ s.judge.asking := by
  unfold offerJudge at offered
  split at offered
  next k rest _ _ asking =>
    split at offered
    · simp only [Option.some.injEq, Prod.mk.injEq] at offered
      rw [asking, offered.1]
      exact .inr List.mem_cons_self
    · exact .inl offered
  · exact .inl offered

/-- No claim of a judgement that is removed is left at the table port. -/
theorem removeJudgements_claim {test : Judgement → Bool} {i : Item} {m : LaneId}
    (offered : (s.removeJudgements test).port.judge = some (i, m)) {j : Judgement} (mem : j ∈ s.judge.entries) (item : j.item = i) :
    test j = false := by
  have left : (s.judge.entries.any fun j => j.item == i && test j) = false := by
    unfold removeJudgements at offered
    rcases offerJudge_claim offered with waited | asked
    · simpa using (Option.filter_eq_some_iff.1 waited).2
    · simpa using (List.mem_filter.1 asked).2
  simpa [item] using List.any_eq_false.1 left j mem

theorem removeJudgements_entries (s : State) (test : Judgement → Bool) :
    (s.removeJudgements test).judge.entries = s.judge.entries.filter fun j => !test j := by
  unfold removeJudgements
  rw [offerJudge_judge]

theorem removeJudgements_bands (s : State) (test : Judgement → Bool) : (s.removeJudgements test).bands = s.bands := by
  unfold removeJudgements offerJudge
  dsimp only
  split
  · split <;> rfl
  · rfl

/-! ## A lane leaves service -/

theorem sweeperLeaves_own (s : State) (l : LaneId) :
    (s.sweeperLeaves l).lane l = (s.lane l).swept ∧ (s.sweeperLeaves l).holds l = false := by
  have own := releaseIfHeld_own (s := s.setLane l (s.lane l).swept) (l := l) (by rw [lane_setLane_same]; rfl)
  rwa [lane_setLane_same] at own

theorem leaveService_eq (s : State) (l : LaneId) : s.leaveService l =
    ((s.sweeperLeaves l).setLane l ((s.lane l).left (s.exitsDropped l))).removeJudgements fun j => j.owner == l := by
  have lane := (sweeperLeaves_own s l).1
  have dropped : (s.sweeperLeaves l).exitsDropped l = s.exitsDropped l := by
    unfold exitsDropped passagesOnTheWay
    rw [lane, (bandWork_sweeperLeaves s l).frame]
    rfl
  rw [← dropped]
  unfold Lane.left
  rw [← lane]
  rfl

theorem leaveService_lane (s : State) (l : LaneId) : (s.leaveService l).lane l = (s.lane l).left (s.exitsDropped l) := by
  rw [leaveService_eq, removeJudgements_lane, lane_setLane_same]

theorem leaveService_arbiter (s : State) (l : LaneId) (g : GroupId) :
    (s.leaveService l).arbiter g = (s.sweeperLeaves l).arbiter g := by
  rw [leaveService_eq]
  unfold arbiter
  rw [removeJudgements_bands]
  rfl

theorem leaveService_holds (s : State) (l : LaneId) : (s.leaveService l).holds l = false := by
  obtain ⟨lane, idle⟩ := sweeperLeaves_own s l
  rw [← idle]
  unfold holds
  rw [groupOf_congr (t := s.leaveService l) (s := s.sweeperLeaves l) (by rw [leaveService_lane, lane]; rfl), leaveService_arbiter]

theorem leaveService_entries (s : State) (l : LaneId) :
    (s.leaveService l).judge.entries = s.judge.entries.filter fun j => !(j.owner == l) := by
  rw [leaveService_eq, removeJudgements_entries, (bandWork_sweeperLeaves s l).frame]
  rfl

theorem leaveService_claim {i : Item} {m : LaneId} (offered : (s.leaveService l).port.judge = some (i, m)) {j : Judgement}
    (mem : j ∈ s.judge.entries) (item : j.item = i) : j.owner ≠ l := by
  rw [leaveService_eq] at offered
  have kept := removeJudgements_claim (j := j) offered (by rw [(bandWork_sweeperLeaves s l).frame]; exact mem) item
  simpa using kept

theorem disableLane_of_enabled (enabled : (s.lane l).state ≠ .disabled) : s.disableLane l =
    (s.leaveService l).setLane l { (s.lane l).left (s.exitsDropped l) with state := .disabled } := by
  unfold disableLane
  rw [if_neg (by simpa using enabled), ← leaveService_lane]
  rfl

theorem restartLane_eq_leaves (enabled : (s.lane l).state ≠ .disabled) : s.restartLane l =
    (s.leaveService l).setLane l ((s.lane l).restarted s.hallTime (s.exitsDropped l)) := by
  have time : (s.leaveService l).hallTime = s.hallTime := by rw [leavingOnly_leaveService s l]
  rw [restartLane_of_enabled enabled, startLane_eq, leaveService_lane, time]
  rfl

@[simp] theorem replyOn_lane (s : State) (p : PortId) (k : Byte) (bs : List Byte) (m : LaneId) :
    (s.replyOn p k bs).lane m = s.lane m := congrArg (·[m]) (replyOn_lanes ..)

@[simp] theorem replyOn_arbiter (s : State) (p : PortId) (k : Byte) (bs : List Byte) (g : GroupId) :
    (s.replyOn p k bs).arbiter g = s.arbiter g := congrArg (·[g]) (replyOn_bands ..)

@[simp] theorem replyOn_holds (s : State) (p : PortId) (k : Byte) (bs : List Byte) (m : LaneId) :
    (s.replyOn p k bs).holds m = s.holds m := by cases p <;> rfl

end State

/-- A lane after DISABLE LANE or, where `starts`, after RESTART LANE (04 R83, R84). -/
def Lane.outOfService (now : Time) (starts : Bool) (dropped : Nat) (x : Lane) : Lane :=
  if starts then x.restarted now dropped else { x.left dropped with state := .disabled }

namespace Lane

variable (now : Time) (starts : Bool) (dropped : Nat) (x : Lane)

theorem outOfService_frame : x.outOfService now starts dropped = { x.left dropped with
    state := if starts then .starting else .disabled
    inner := (x.outOfService now starts dropped).inner, outer := (x.outOfService now starts dropped).outer } := by
  cases starts <;> rfl

theorem head_outOfService (h : HeadPos) : (x.outOfService now starts dropped).head h =
    if starts then (x.head h).abortCommand.leave.ident now else (x.head h).abortCommand.leave := by
  cases starts with
  | true => exact head_restarted ..
  | false => exact (head_congr rfl rfl h).trans (head_left _ dropped h)

end Lane

end Sys2Proof.Machine

namespace Sys2Proof.Proofs

open Sys2Proof Sys2Proof.Machine Sys2Proof.Machine.State

/-- Settles O32: the lane ends as `Lane.outOfService` has it, its band as `releaseIfHeld_bands` has it, and its judgements are
filtered out with their claim. -/
theorem lanesLeaveServiceWhole : Obligations.LanesLeaveServiceWhole := by
  unfold Obligations.LanesLeaveServiceWhole
  intro s c p src kind l r taken how enabled
  let x := s.lane l
  let starts := !decide (c = .disableLane)
  let y := x.outOfService s.hallTime starts (s.exitsDropped l)
  let u := ((s.leaveService l).setLane l y).replyOn p kind (codeReply .done)
  have ran : exec c s = .next u.drive := by
    rcases how with ⟨rfl, rfl, rfl, rfl⟩ | ⟨rfl, rfl, standing⟩
    · rw [exec_disableLane taken, withLane_val, disableLane_of_enabled enabled]
      rfl
    · rw [exec_restartLane taken, laneRequest_val l ((inStanding_iff s src).2 standing), restartLane_eq_leaves enabled]
      rfl
  have yFrame : y = { x.left (s.exitsDropped l) with
      state := if starts then .starting else .disabled, inner := y.inner, outer := y.outer } := Lane.outOfService_frame ..
  have lane : u.drive.lane l = { y with sounder := (u.drive.lane l).sounder, lamp := (u.drive.lane l).lamp } := by
    have driven := drive_lane u l
    rwa [replyOn_lane, lane_setLane_same] at driven
  have counts : (u.drive.lane l).counts = (x.left (s.exitsDropped l)).counts := by rw [lane, yFrame]
  have settings : y.settings = ((s.leaveService l).lane l).settings := by rw [leaveService_lane, yFrame]
  have arbiter (g : GroupId) : u.drive.arbiter g = (s.sweeperLeaves l).arbiter g := by
    rw [drive_arbiter, replyOn_arbiter, arbiter_setLane, leaveService_arbiter]
  have holder : u.drive.holds l = false := by
    rw [drive_holds, replyOn_holds, holds_setLane settings, leaveService_holds]
  have beyond : u.drive = { s.leaveService l with lanes := u.drive.lanes, desk := u.desk, link := u.link } := by
    rw [drive_frame u]
    cases p <;> rfl
  have left : LeavingOnly s (s.leaveService l) := leavingOnly_leaveService s l
  have ports : (s.leaveService l).desk = s.desk ∧ (s.leaveService l).link = s.link := by
    rw [left]
    exact ⟨rfl, rfl⟩
  have deskKept : u.drive.desk = u.desk := by rw [beyond]
  obtain ⟨idle, others, guards, grants⟩ :=
    releaseIfHeld_bands (s := s) (l := l) (x := x.swept) rfl rfl
  have bands : (s.setLane l x.swept).releaseIfHeld l = s.sweeperLeaves l := rfl
  refine ⟨u.drive, ran, ?state, ?flight, ?buffer, ?ask, ?probes, ?passages, ?awaited, ?settings, ?gone, ?kept, ?claim, holder,
    ?guards, ⟨?grants, ?idle, fun k other => (arbiter k).trans (others k other), ?counts⟩, ?dropped, ?heads, ?deskReply,
    ?linkReply, ?rest⟩
  case state =>
    rw [lane, yFrame]
    simp [starts]
  case flight | buffer | ask | probes | passages | awaited | settings =>
    rw [lane, yFrame]
    rfl
  case gone =>
    rw [beyond]
    intro j mem
    rw [leaveService_entries] at mem
    simpa using (List.mem_filter.1 mem).2
  case kept =>
    rw [beyond]
    intro j mem other
    rw [leaveService_entries]
    exact List.mem_filter.2 ⟨mem, by simpa using other⟩
  case claim =>
    rw [beyond]
    intro i m offered j mem item
    exact leaveService_claim offered mem item
  case guards => exact fun holds gap => (arbiter _).trans (guards holds gap)
  case grants =>
    intro holds gap
    rw [arbiter]
    rcases grants holds gap with ⟨none, free⟩ | ⟨m, waiting, urgently, nearest, held⟩
    · exact ⟨fun _ => free, fun ⟨m, waiting⟩ => absurd waiting (none m)⟩
    · exact ⟨fun none => absurd waiting (none m), fun _ => ⟨m, waiting, urgently, nearest, held⟩⟩
  case idle =>
    intro idles
    rw [arbiter, ← bands, idle idles, arbiter_setLane]
  case counts =>
    rw [counts, Lane.left_counts]
  case dropped =>
    rw [counts, Lane.left_counts, exitsDropped_eq]
  case heads =>
    intro h
    rw [drive_head, replyOn_lane, lane_setLane_same, Lane.head_outOfService, HeadUnit.restart_eq, HeadUnit.abortCommand_leave]
    by_cases disables : c = .disableLane
    · simp [starts, disables, x]
    · simp [starts, disables, x]
  case deskReply =>
    rintro rfl
    rw [deskKept, drive_link, replyOn_desk_desk, replyOn_desk_link, setLane_link, ports.2]
    exact ⟨rfl, rfl⟩
  case linkReply =>
    rintro rfl
    rw [deskKept, drive_link, replyOn_link_desk, replyOn_link_link, setLane_desk, ports.1]
    exact ⟨rfl, rfl⟩
  case rest =>
    rw [beyond, left]
    exact ⟨rfl, rfl, rfl, rfl, rfl, rfl, rfl⟩

end Sys2Proof.Proofs

/-! # Verification -/

namespace Sys2Proof.Machine

/-! ## A probe joins the queue of a lane (05 R99) -/

/-- A lane whose rounds are aborted for a probe: their commands aborted, its cycle broken, nothing in flight. -/
def Lane.interrupted (x : Lane) : Lane := { x.abortAll.breakCycle with flight := .nothing }

theorem LaneState.hasWork_iff (state : LaneState) : state.hasWork = true ↔ state = .inService ∨ state = .single := by
  cases state <;> simp [hasWork]

namespace Lane

theorem interrupted_eq (x : Lane) : x.interrupted = { x with
    inner := x.inner.abortCommand, outer := x.outer.abortCommand, flight := .nothing
    buffer := if x.settings.halfCycle = .continue then x.buffer else none
    counts := { x.counts with abortedRounds :=
      x.counts.abortedRounds + (if x.inner.roundOut then 1 else 0) + (if x.outer.roundOut then 1 else 0) } } := by
  unfold interrupted
  rw [breakCycle_eq, BitVec.add_assoc, ← ofNat_roundsOut]
  rfl

theorem abortCommand_of_roundOut {u : HeadUnit} (out : u.roundOut = true) :
    u.abortCommand = { u with state := .ready, outstanding := none, abortOwed := true } := by
  rw [HeadUnit.abortCommand_eq, if_pos (.inr out)]

/-- The ABORTs of aborted rounds hold back the probe. -/
theorem begun_interrupted {x : Lane} (now : Time) (queued : x.probes ≠ []) (out : x.inner.roundOut = true ∨ x.outer.roundOut = true) :
    x.interrupted.begun now = x.interrupted := by
  have owes {u : HeadUnit} (out : u.roundOut = true) : u.abortCommand.working = true ∧ u.abortCommand.abortOwed = true := by
    simp [abortCommand_of_roundOut out, HeadUnit.working]
  rw [interrupted_eq]
  refine begun_of_waiting now _ queued ?_
  rcases out with inner | outer
  · exact abortWaits_of_head (h := .inner) (owes inner).1 (owes inner).2
  · exact abortWaits_of_head (h := .outer) (owes outer).1 (owes outer).2

theorem SameWork.begun {x y : Lane} (now : Time) (same : x.SameWork y) : x.SameWork (y.begun now) := by
  rw [begun_frame]
  exact ⟨same.state, same.settings, same.probes, same.awaited, same.results⟩

end Lane

namespace State

variable {s : State} {l : LaneId}

/-- A holder whose rounds are in flight aborts them, and starts the probe or waits for the ABORTs. -/
theorem probeJoined_of_rounds (holder : s.holds l = true) (flight : ∃ form inner outer, (s.lane l).flight = .rounds form inner outer)
    (queued : (s.lane l).probes ≠ []) : s.probeJoined l = s.setLane l ((s.lane l).interrupted.begun s.hallTime) := by
  obtain ⟨form, inner, outer, flight⟩ := flight
  have interrupted : s.probeJoined l = (s.setLane l (s.lane l).interrupted).startProbe l := by
    unfold probeJoined
    rw [if_pos holder, flight]
    rfl
  rw [interrupted, startProbe_eq (by rw [lane_setLane_same, Lane.interrupted_eq]; exact queued), lane_setLane_same, setLane_setLane]
  rfl

theorem probeJoined_of_idle (holder : s.holds l = true) (flight : (s.lane l).flight = .nothing) (queued : (s.lane l).probes ≠ []) :
    s.probeJoined l = s.setLane l ((s.lane l).begun s.hallTime) := by
  rw [← startProbe_eq queued]
  unfold probeJoined
  rw [if_pos holder, flight]

theorem probeJoined_of_probe (holder : s.holds l = true) {form : Form} {faulted : Bool}
    (flight : (s.lane l).flight = .probe form faulted) : s.probeJoined l = s := by
  unfold probeJoined
  rw [if_pos holder, flight]

/-- A lane without the band asks for it, unless it asks already. -/
theorem probeJoined_of_no_band (holder : s.holds l = false) :
    s.probeJoined l = if (s.lane l).ask then s else s.askBand l := by
  unfold probeJoined
  rw [if_neg (by simp [holder])]

theorem probeJoined_asks (holder : s.holds l = false) (taken : (s.arbiter (s.groupOf l)).band ≠ .free) :
    ((s.probeJoined l).lane l).ask = true := by
  rw [probeJoined_of_no_band holder]
  split
  next asks => exact asks
  · rw [askBand_of_taken holder taken, lane_setLane_same]

/-- A probe that joins leaves the queue, the awaited probes and the results of its lane. -/
theorem probeJoined_sameWork (queued : (s.lane l).probes ≠ []) : (s.lane l).SameWork ((s.probeJoined l).lane l) := by
  have refl : (s.lane l).SameWork (s.lane l) := ⟨rfl, rfl, rfl, rfl, rfl⟩
  cases holder : s.holds l with
  | true =>
    cases flight : (s.lane l).flight with
    | rounds form inner outer =>
      rw [probeJoined_of_rounds holder ⟨_, _, _, flight⟩ queued, lane_setLane_same]
      refine Lane.SameWork.begun _ ?_
      rw [Lane.interrupted_eq]
      exact ⟨rfl, rfl, rfl, rfl, rfl⟩
    | nothing =>
      rw [probeJoined_of_idle holder flight queued, lane_setLane_same]
      exact refl.begun _
    | probe form faulted =>
      rw [probeJoined_of_probe holder flight]
      exact refl
  | false =>
    rw [probeJoined_of_no_band holder]
    split
    · exact refl
    · rcases lane_askBand s l with ⟨-, same⟩ | asks | began
      · rw [same]
        exact refl
      · rw [asks]
        exact ⟨rfl, rfl, rfl, rfl, rfl⟩
      · rw [began]
        exact Lane.SameWork.begun _ ⟨rfl, rfl, rfl, rfl, rfl⟩

/-! ## The judgement that verification changes (07 R140, R143) -/

theorem findJudgement_item {i : Item} {j : Judgement} (found : s.findJudgement i = some j) : j.item = i := by
  simpa using List.find?_some found

theorem findJudgement_modJudgement {i : Item} {j : Judgement} (found : s.findJudgement i = some j) (f : Judgement → Judgement)
    (keeps : ∀ e, (f e).item = e.item) : (s.modJudgement i f).findJudgement i = some (f j) := by
  have same : ((fun e : Judgement => e.item == i) ∘ fun e => if e.item == i then f e else e) = fun e => e.item == i := by
    funext e
    by_cases item : e.item = i
    · simp [item, keeps]
    · simp [item]
  unfold findJudgement modJudgement at *
  rw [List.find?_map, same, found]
  simp [findJudgement_item found]

/-- The lane of a judgement that is verified awaits its probe, which joins the queue. -/
def awaitingLane (s : State) (j : Judgement) : Lane :=
  { s.lane j.owner with
    awaited := (s.lane j.owner).awaited ++ [{ item := j.item, live := true }]
    probes := (s.lane j.owner).probes ++ [{ code := s.probeCode j, item := j.item }] }

theorem verify_of_accepts {i : Item} {j : Judgement} (found : s.findJudgement i = some j)
    (verifies : (s.lane j.owner).settings.verify = true) (accepts : s.acceptsProbe j.owner = true) :
    s.verify i = ((s.modJudgement i fun e => { e with stage := .verifying }).setLane j.owner (s.awaitingLane j)).probeJoined j.owner := by
  obtain rfl := findJudgement_item found
  unfold verify acceptProbe
  rw [found]
  dsimp only
  rw [verifies, accepts, Bool.and_true, if_pos rfl]
  unfold modLane
  rw [lane_setLane_same, setLane_setLane]
  rfl

theorem verify_of_refused {i : Item} {j : Judgement} (found : s.findJudgement i = some j)
    (refused : ¬ ((s.lane j.owner).settings.verify = true ∧ s.acceptsProbe j.owner = true)) : s.verify i = s.giveAlarm j true := by
  unfold verify
  rw [found]
  exact if_neg (by simpa using refused)

theorem raiseAlarm_lane (s : State) (a : Raising) (m : LaneId) : (s.raiseAlarm a).lane m = s.lane m := by
  obtain ⟨-, -, -, -, -, -, -, lanes, -⟩ := makeLogRoom_spec s
  exact congrArg (·[m]) lanes

theorem raiseAlarm_judge (s : State) (a : Raising) : (s.raiseAlarm a).judge = s.judge := by
  unfold raiseAlarm makeLogRoom
  dsimp only
  split
  · rfl
  · split <;> rfl

/-- A verdict of ALARM: the record raised, its number and the verdict written, and the verdict returned and counted. -/
theorem giveAlarm_eq (s : State) (j : Judgement) (unverified : Bool) : s.giveAlarm j unverified =
    ((s.raiseAlarm { lane := j.owner, item := j.item, raw := j.raw, cls := alarmClassOf j.reason, unverified := unverified }).modJudgement
      j.item fun e => { e with stage := .done, verdict := some .alarm, alarmNumber := some s.makeLogRoom.nextNumber }).setLane j.owner
      { s.lane j.owner with
        verdicts := (s.lane j.owner).verdicts ++ [(j.item, .alarm)]
        counts := { (s.lane j.owner).counts with alarms := (s.lane j.owner).counts.alarms + 1 } } := by
  have lane := raiseAlarm_lane s
    { lane := j.owner, item := j.item, raw := j.raw, cls := alarmClassOf j.reason, unverified := unverified } j.owner
  unfold giveAlarm returnVerdict modCounts modLane
  generalize s.raiseAlarm _ = t at lane ⊢
  dsimp only
  rw [lane_setLane_same, setLane_setLane, ← lane]
  rfl

end State

end Sys2Proof.Machine

namespace Sys2Proof.Proofs

open Sys2Proof Sys2Proof.Machine Sys2Proof.Machine.State

/-- Settles O46: the accepting lane's probe joins its queue as `probeJoined` has it; a refused one is alarmed by `giveAlarm_eq`. -/
theorem verificationAsksForAProbeOrAlarms : Obligations.VerificationAsksForAProbeOrAlarms := by
  unfold Obligations.VerificationAsksForAProbeOrAlarms
  intro s i j found x accepts
  obtain rfl := findJudgement_item found
  have acceptsIff : accepts ↔ x.settings.verify = true ∧ s.acceptsProbe j.owner = true := by
    rw [acceptsProbe_iff, LaneState.hasWork_iff]
  refine ⟨fun accepted => ?accepted, fun refused => ?refused⟩
  case accepted =>
    obtain ⟨verifies, takes⟩ := acceptsIff.1 accepted
    let z := s.awaitingLane j
    let u := s.modJudgement j.item fun e => { e with stage := .verifying }
    let r := u.setLane j.owner z
    have lane : r.lane j.owner = z := lane_setLane_same ..
    have queued : (r.lane j.owner).probes ≠ [] := by
      rw [lane]
      exact List.append_ne_nil_of_right_ne_nil _ (List.cons_ne_nil _ _)
    have holder : r.holds j.owner = s.holds j.owner := holds_setLane (s := u) (z := z) rfl
    have band : r.arbiter (r.groupOf j.owner) = s.arbiter (s.groupOf j.owner) := by
      rw [show r.groupOf j.owner = s.groupOf j.owner from groupOf_setLane (s := u) (z := z) rfl _]
      rfl
    have same := probeJoined_sameWork queued
    have only : LanesOnly r (r.probeJoined j.owner) := lanesOnly_probeJoined ..
    have judge : (r.probeJoined j.owner).judge = r.judge := by rw [only]
    have log : (r.probeJoined j.owner).log = r.log := by rw [only]
    rw [verify_of_accepts found verifies takes]
    refine ⟨?_, same.awaited.trans ?_, same.probes.trans ?_, ?_, ?rounds, ?idle, fun idle taken => ?_⟩
    · unfold findJudgement
      rw [judge]
      exact findJudgement_modJudgement found _ fun _ => rfl
    · rw [lane]
      rfl
    · rw [lane]
      rfl
    · exact log
    case rounds =>
      intro holds flight out
      rw [probeJoined_of_rounds (holder.trans holds) (by rw [lane]; exact flight) queued, lane_setLane_same,
        Lane.begun_interrupted _ queued (by rw [lane]; exact out), lane, Lane.interrupted_eq]
      exact ⟨Lane.abortCommand_of_roundOut, Lane.abortCommand_of_roundOut, rfl, rfl, rfl, rfl⟩
    case idle =>
      intro holds flight inner outer
      obtain ⟨e, queue, front⟩ := List.exists_cons_of_ne_nil queued
      have clear : (r.lane j.owner).abortWaits = false := by
        rw [lane]
        simp [Lane.abortWaits, show z.inner.abortOwed = false from inner, show z.outer.abortOwed = false from outer]
      have still : (r.lane j.owner).flight = .nothing := by
        rw [lane]
        exact flight
      rw [probeJoined_of_idle (holder.trans holds) still queued, lane_setLane_same, Lane.begun_of_probe _ _ front still clear]
      exact ⟨_, rfl⟩
    · exact probeJoined_asks (holder.trans idle) (by rwa [band])
  case refused =>
    obtain ⟨a, raised, number, lane, item, raw, cls, unverified⟩ := raiseAlarm_raised s
      { lane := j.owner, item := j.item, raw := j.raw, cls := alarmClassOf j.reason, unverified := true }
    have alarmed := findJudgement_modJudgement (s := s.raiseAlarm
        { lane := j.owner, item := j.item, raw := j.raw, cls := alarmClassOf j.reason, unverified := true }) (i := j.item) (j := j)
      (by unfold findJudgement; rw [raiseAlarm_judge]; exact found)
      (fun e => { e with stage := .done, verdict := some .alarm, alarmNumber := some s.makeLogRoom.nextNumber }) fun _ => rfl
    have written := giveAlarm_eq s j true
    generalize s.raiseAlarm _ = t at raised alarmed written
    rw [verify_of_refused found fun takes => refused (acceptsIff.2 takes), written, lane_setLane_same]
    obtain ⟨kept, log, -, -, -, -, time, ending, opened, -, -, notices, line⟩ := id raised
    refine ⟨a, ?_, raised, ?_, lane, item, raw, unverified, time, opened, ?_, ?_, rfl, rfl, ?_, line⟩
    · show t.log.records.getLast? = some a
      rw [log]
      exact List.getLast?_concat
    · rw [number]
      exact alarmed
    · rw [ending, lane]
    · rintro r reason
      rw [cls, reason]
      cases r <;> rfl
    · show t.link.notices.alarm = true
      rw [notices]

end Sys2Proof.Proofs

/-! # Invariants of the part

What the 71 commands do to the lanes, the arbiters and the two request ports comes to a few operations. A property that power-on
reset establishes and that each of these operations keeps is kept by every step. -/

namespace Sys2Proof.Machine

/-! ## The operations to which the commands come -/

/-- The desk bus port within its sizes: its request buffer, and the reply bytes that count as supplied (09 R166, R167). -/
def DeskPort.Bounded (d : DeskPort) : Prop := d.buffer.length ≤ Config.deskBufferBytes ∧ d.supplied ≤ d.reply.length

/-- The receive buffer within its size (10 R179). -/
def LinkPort.Bounded (p : LinkPort) : Prop := p.buffer.length ≤ Config.receiveBufferBytes

/-- The NOTICE line follows the notice set (10 R190). -/
def LinkPort.Lined (p : LinkPort) : Prop :=
  p.noticeLine = (p.notices.alarm || p.notices.fault || p.notices.logOverwrite || p.notices.crowd || p.notices.tableFull)

/-- What the service link port keeps from one port to another. -/
structure LinkPort.Kept (p q : LinkPort) : Prop where
  bounded : p.Bounded → q.Bounded
  lined : p.Lined → q.Lined

/-- Hall time, the lanes and the arbiters are the same, and each request port keeps its sizes and its line. -/
structure AsideOnly (s t : State) : Prop where
  hallTime : t.hallTime = s.hallTime
  lanes : t.lanes = s.lanes
  bands : t.bands = s.bands
  desk : s.desk.Bounded → t.desk.Bounded
  link : s.link.Kept t.link

/-- Of a lane nothing changes that its band or its probes turn on: its awaited probes may be marked, and its results taken. -/
structure Lane.Quiet (x y : Lane) : Prop where
  state : y.state = x.state
  settings : y.settings = x.settings
  flight : y.flight = x.flight
  ask : y.ask = x.ask
  probes : y.probes = x.probes
  awaited : y.awaited.map AwaitedProbe.item = x.awaited.map AwaitedProbe.item
  results : x.results = [] → y.results = []

/-- What the end of a round or a probe on a head makes of its lane: nothing comes into flight, and the probes stay as they are, or the
front one leaves the queue with its awaited record. -/
structure Lane.FlightEnded (x y : Lane) : Prop where
  state : y.state = x.state
  settings : y.settings = x.settings
  flight : x.flight = .nothing → y.flight = .nothing
  ask : y.ask = x.ask
  probes : y.probes = x.probes ∧ y.awaited = x.awaited ∧ y.results = x.results
    ∨ ∃ e queue, x.probes = e :: queue ∧ y.probes = queue ∧ y.awaited = x.awaited.drop 1

/-- A round or a probe ends on a head of lane `l`: the lane is written, and where that leaves nothing in flight the holder may decide. -/
def State.FlightEnds (s : State) (l : LaneId) (t : State) : Prop :=
  ∃ y, (s.lane l).FlightEnded y
    ∧ (t = s.setLane l y ∨ (s.lane l).flight ≠ .nothing ∧ y.flight = .nothing ∧ t = (s.setLane l y).decideNext l)

/-- A lane that has let go of its work: it has nothing in flight and no probe, and does not ask. -/
structure Lane.OutOfWork (x : Lane) : Prop where
  flight : x.flight = .nothing
  ask : x.ask = false
  probes : x.probes = []
  awaited : x.awaited = []
  results : x.results = []

/-- A lane whose verification has been accepted awaits a probe, which joins its queue (07 R140). -/
def Lane.withProbe (x : Lane) (code : TagCode) (i : Item) : Lane :=
  { x with awaited := x.awaited ++ [{ item := i, live := true }], probes := x.probes ++ [{ code := code, item := i }] }

/-- An invariant: a property that holds after power-on reset and is kept by each operation to which the commands come. -/
structure StepInvariant (P : State → Prop) : Prop where
  aside {s t : State} : P s → AsideOnly s t → P t
  reset (a r : BitVec 2) : P (State.afterPowerOn a r)
  tick {s : State} : P s → P s.tick
  quiet {s : State} {l : LaneId} {x : Lane} : P s → (s.lane l).Quiet x → P (s.setLane l x)
  flightEnds {s t : State} {l : LaneId} : P s → s.FlightEnds l t → P t
  probeStarts {s : State} {l : LaneId} : P s → s.holds l = true → P (s.startProbe l)
  probeJoins {s : State} {l : LaneId} (code : TagCode) (i : Item) :
    P s → s.acceptsProbe l = true → P ((s.setLane l ((s.lane l).withProbe code i)).probeJoined l)
  guardEnd {s : State} {g : GroupId} : P s → (s.arbiter g).band = .guarding → P (s.takeGuardEnd g)
  /-- a lane comes into service (04 R79, R80) -/
  enters {s : State} (l : LaneId) {st : LaneState} :
    P s → st.hasWork = true → P ((s.setLane l { s.lane l with state := st }).askBand l)
  /-- a lane goes on with one head (04 R80) -/
  goesOn {s : State} {l : LaneId} : P s → (s.lane l).state = .inService → P (s.setLane l { s.lane l with state := .single })
  stops {s : State} (l : LaneId) : P s → P ((s.setLane l (s.lane l).stopped).releaseIfHeld l)
  /-- a lane leaves service (04 R83) -/
  leaves {s : State} {l : LaneId} {x : Lane} :
    P s → x.settings = (s.lane l).settings → x.OutOfWork → P ((s.sweeperLeaves l).setLane l x)
  starts {s : State} {l : LaneId} :
    P s → (s.lane l).state = .disabled → P (s.setLane l { s.lane l with state := .starting })
  configures {s : State} {l : LaneId} (v : LaneSettings) :
    P s → (s.lane l).state = .disabled → P (s.setLane l { s.lane l with settings := v })
  /-- the lanes and the judgement unit make their soft restarts (04 R85, 07 R147) -/
  restarts {s : State} : P s → P s.restartLanes.restartJudgement

theorem LinkPort.Kept.of_same {p q : LinkPort} (buffer : q.buffer = p.buffer) (notices : q.notices = p.notices)
    (line : q.noticeLine = p.noticeLine) : p.Kept q := by
  refine ⟨fun bounded => ?_, fun lined => ?_⟩
  · unfold Bounded
    rwa [buffer]
  · unfold Lined
    rwa [notices, line]

theorem LinkPort.Kept.refl (p : LinkPort) : p.Kept p := ⟨id, id⟩

theorem AsideOnly.refl (s : State) : AsideOnly s s := ⟨rfl, rfl, rfl, id, .refl _⟩

theorem AsideOnly.trans {s t u : State} (h₁ : AsideOnly s t) (h₂ : AsideOnly t u) : AsideOnly s u :=
  ⟨h₂.hallTime.trans h₁.hallTime, h₂.lanes.trans h₁.lanes, h₂.bands.trans h₁.bands, fun bounded => h₂.desk (h₁.desk bounded),
    fun bounded => h₂.link.bounded (h₁.link.bounded bounded), fun lined => h₂.link.lined (h₁.link.lined lined)⟩

/-- What touches neither a lane nor an arbiter nor a request port. -/
theorem AsideOnly.of_same {s t : State} (hallTime : t.hallTime = s.hallTime) (lanes : t.lanes = s.lanes)
    (bands : t.bands = s.bands) (desk : t.desk = s.desk) (link : t.link = s.link) : AsideOnly s t :=
  ⟨hallTime, lanes, bands, fun bounded => desk ▸ bounded, .of_same (by rw [link]) (by rw [link]) (by rw [link])⟩

theorem Lane.FlightEnded.refl (x : Lane) : x.FlightEnded x := ⟨rfl, rfl, id, rfl, .inl ⟨rfl, rfl, rfl⟩⟩

theorem Lane.begun_settings (now : Time) (x : Lane) : (x.begun now).settings = x.settings := by rw [begun_frame]
theorem Lane.begun_state (now : Time) (x : Lane) : (x.begun now).state = x.state := by rw [begun_frame]
theorem Lane.begun_ask (now : Time) (x : Lane) : (x.begun now).ask = x.ask := by rw [begun_frame]

end Sys2Proof.Machine

/-! # The bands sound

A lane with something in flight holds the band of its group, a holder is a member of the group and in service, and a lane that asks is
in service (05 R93, R94). Between the act of a lane and the release of its band only the arbiter of its group is out of step. -/

namespace Sys2Proof.Machine

namespace State

variable {s t : State} {l : LaneId} {g : GroupId} {x : Lane}

theorem bandsSound.exclusive (sound : s.bandsSound) : s.bandExclusive := by
  obtain ⟨flies, -, -⟩ := sound
  intro l m group flying also
  have own := flies l flying
  have other := flies m also
  unfold holds at own other
  rw [group] at own
  simp only [beq_iff_eq] at own other
  rw [own] at other
  exact BandCondition.held.inj other

/-- A lane in service is what a holder is. -/
theorem bandsSound.holder_works (sound : s.bandsSound) (holder : s.holds l = true) : (s.lane l).state.hasWork = true :=
  (sound.2.1 (s.groupOf l) l (by simpa [holds] using holder)).2

/-- A lane that does not hold the band of its own group holds none. -/
theorem bandsSound.unheld (sound : s.bandsSound) (idle : s.holds l = false) (g : GroupId) : (s.arbiter g).band ≠ .held l := by
  intro held
  obtain ⟨group, -⟩ := sound.2.1 g l held
  simp [holds_of_band group held] at idle

theorem bandsSound.congr (sound : s.bandsSound) (bands : ∀ g, (t.arbiter g).band = (s.arbiter g).band)
    (settings : ∀ m, (t.lane m).settings = (s.lane m).settings) (state : ∀ m, (t.lane m).state = (s.lane m).state)
    (flight : ∀ m, (t.lane m).flight = (s.lane m).flight) (ask : ∀ m, (t.lane m).ask = true → (s.lane m).ask = true) :
    t.bandsSound := by
  obtain ⟨flies, holder, asks⟩ := sound
  have group (m : LaneId) : t.groupOf m = s.groupOf m := groupOf_congr (settings m)
  refine ⟨fun m flying => ?_, fun g m held => ?_, fun m asking => ?_⟩
  · rw [flight] at flying
    exact holds_of_band (group m) ((bands _).trans (by simpa [holds] using flies m flying))
  · rw [bands] at held
    rw [group, state]
    exact holder g m held
  · rw [state]
    exact asks m (ask m asking)

theorem bandsSound.setBand {a : BandArbiter} (sound : s.bandsSound) (band : a.band = (s.arbiter g).band) :
    (s.setBand g a).bandsSound := by
  refine sound.congr (fun k => ?_) (fun _ => rfl) (fun _ => rfl) (fun _ => rfl) fun _ => id
  rw [arbiter_setBand]
  split
  next same => rw [band, same]
  · rfl

/-- A lane written keeps the bands sound: what it has in flight it must hold the band for, and as a holder and where it asks it must be
in service. -/
theorem bandsSound.setLane (sound : s.bandsSound) (settings : x.settings = (s.lane l).settings)
    (flight : x.flight ≠ .nothing → s.holds l = true) (state : s.holds l = true → x.state.hasWork = true)
    (ask : x.ask = true → x.state.hasWork = true) : (s.setLane l x).bandsSound := by
  obtain ⟨flies, holder, asks⟩ := sound
  refine ⟨fun m flying => ?_, fun g m held => ?_, fun m asking => ?_⟩
  · have same : (s.setLane l x).holds m = s.holds m := by
      unfold holds
      rw [groupOf_setLane settings, arbiter_setLane]
    rw [lane_setLane] at flying
    rw [same]
    split at flying
    next own => exact own ▸ flight flying
    · exact flies m flying
  · obtain ⟨group, works⟩ := holder g m held
    rw [groupOf_setLane settings, lane_setLane]
    refine ⟨group, ?_⟩
    split
    next own => exact state (holds_of_band (own ▸ group) (own ▸ held))
    · exact works
  · rw [lane_setLane] at asking ⊢
    split at asking
    next own =>
      rw [if_pos own]
      exact ask asking
    next other =>
      rw [if_neg other]
      exact asks m asking

/-- A holder that stays in service may have anything in flight. -/
theorem bandsSound.setLane_holder (sound : s.bandsSound) (holder : s.holds l = true)
    (settings : x.settings = (s.lane l).settings) (state : x.state = (s.lane l).state) : (s.setLane l x).bandsSound :=
  have works : x.state.hasWork = true := by rw [state]; exact sound.holder_works holder
  sound.setLane settings (fun _ => holder) (fun _ => works) fun _ => works

/-- A lane that holds no band and has nothing in flight may change even its group. -/
theorem bandsSound.setLane_unheld (sound : s.bandsSound) (idle : s.holds l = false) (flight : x.flight = .nothing)
    (ask : x.ask = true → x.state.hasWork = true) : (s.setLane l x).bandsSound := by
  have unheld := sound.unheld idle
  obtain ⟨flies, holder, asks⟩ := sound
  have kept {m : LaneId} (other : m ≠ l) : (s.setLane l x).groupOf m = s.groupOf m :=
    groupOf_congr (by rw [lane_setLane_other s x other])
  refine ⟨fun m flying => ?_, fun g m held => ?_, fun m asking => ?_⟩
  · have other : m ≠ l := by
      rintro rfl
      exact flying (by rw [lane_setLane_same, flight])
    rw [lane_setLane_other s x other] at flying
    exact holds_of_band (kept other) (by simpa [holds] using flies m flying)
  · have other : m ≠ l := by
      rintro rfl
      exact unheld g held
    rw [kept other, lane_setLane_other s x other]
    exact holder g m held
  · by_cases own : m = l
    · subst own
      rw [lane_setLane_same] at asking ⊢
      exact ask asking
    · rw [lane_setLane_other s x own] at asking ⊢
      exact asks m asking

/-! ## The arbiter of one group out of step -/

/-- The bands are sound but for the arbiter of group `g`, of which no lane has anything in flight. -/
structure BandsSoundBut (s : State) (g : GroupId) : Prop where
  flies : ∀ l, (s.lane l).flight ≠ .nothing → s.groupOf l ≠ g ∧ s.holds l = true
  holder : ∀ k l, k ≠ g → (s.arbiter k).band = .held l → s.groupOf l = k ∧ (s.lane l).state.hasWork = true
  asks : ∀ l, (s.lane l).ask = true → (s.lane l).state.hasWork = true

theorem BandsSoundBut.setBand (but : s.BandsSoundBut g) (a : BandArbiter) : (s.setBand g a).BandsSoundBut g := by
  refine ⟨fun l flying => ?_, fun k l other held => ?_, but.asks⟩
  · obtain ⟨other, holder⟩ := but.flies l flying
    refine ⟨other, ?_⟩
    unfold holds at holder ⊢
    rwa [groupOf_setBand, arbiter_setBand, if_neg other]
  · rw [arbiter_setBand, if_neg other] at held
    exact but.holder k l other held

/-- With no holder there the arbiter is in step. -/
theorem BandsSoundBut.sound (but : s.BandsSoundBut g) (idle : ∀ l, (s.arbiter g).band ≠ .held l) : s.bandsSound := by
  refine ⟨fun l flying => (but.flies l flying).2, fun k l held => but.holder k l ?_ held, but.asks⟩
  rintro rfl
  exact idle l held

theorem bandsSound.but_of_idle (sound : s.bandsSound) (idle : ∀ l, (s.arbiter g).band ≠ .held l) : s.BandsSoundBut g := by
  obtain ⟨flies, holder, asks⟩ := sound
  refine ⟨fun l flying => ⟨?_, flies l flying⟩, fun k l _ => holder k l, asks⟩
  rintro rfl
  exact idle l (by simpa [holds] using flies l flying)

/-- Once a holder has nothing in flight, no lane of its group has. -/
theorem bandsSound.but_of_holder (sound : s.bandsSound) (holder : s.holds l = true) (settings : x.settings = (s.lane l).settings)
    (flight : x.flight = .nothing) (ask : x.ask = true → x.state.hasWork = true) :
    (s.setLane l x).BandsSoundBut (s.groupOf l) := by
  obtain ⟨flies, holders, asks⟩ := sound
  have held : (s.arbiter (s.groupOf l)).band = .held l := by simpa [holds] using holder
  refine ⟨fun m flying => ?_, fun k m other heldToo => ?_, fun m asking => ?_⟩
  · have other : m ≠ l := by
      rintro rfl
      exact flying (by rw [lane_setLane_same, flight])
    rw [lane_setLane_other s x other] at flying
    have also : (s.arbiter (s.groupOf m)).band = .held m := by simpa [holds] using flies m flying
    refine ⟨fun group => other ?_, holds_of_band (groupOf_setLane settings m) also⟩
    rw [groupOf_setLane settings] at group
    rw [group, held] at also
    exact (BandCondition.held.inj also).symm
  · obtain ⟨group, works⟩ := holders k m heldToo
    have apart : m ≠ l := by
      rintro rfl
      exact other group.symm
    rw [groupOf_setLane settings, lane_setLane_other s x apart]
    exact ⟨group, works⟩
  · by_cases own : m = l
    · subst own
      rw [lane_setLane_same] at asking ⊢
      exact ask asking
    · rw [lane_setLane_other s x own] at asking ⊢
      exact asks m asking

/-- A grant to a lane of the group in service brings its arbiter in step. -/
theorem BandsSoundBut.granted (but : s.BandsSoundBut g) {a : BandArbiter} (band : a.band = .held l) (member : s.groupOf l = g)
    (works : (s.lane l).state.hasWork = true) (now : Time) :
    ((s.setBand g a).setLane l (({ s.lane l with ask := false } : Lane).begun now)).bandsSound := by
  let y : Lane := ({ s.lane l with ask := false } : Lane).begun now
  have settings : y.settings = (s.lane l).settings := Lane.begun_settings ..
  have state : y.state = (s.lane l).state := Lane.begun_state ..
  have ask : y.ask = false := Lane.begun_ask ..
  have group (m : LaneId) : ((s.setBand g a).setLane l y).groupOf m = s.groupOf m := groupOf_setLane (s := s.setBand g a) settings m
  refine ⟨fun m flying => ?_, fun k m held => ?_, fun m asking => ?_⟩
  · by_cases own : m = l
    · subst own
      exact holds_of_band ((group m).trans member) (by rw [arbiter_setLane, arbiter_setBand_same, band])
    · rw [lane_setLane_other _ _ own] at flying
      obtain ⟨other, holder⟩ := but.flies m flying
      refine holds_of_band (group m) ?_
      rw [arbiter_setLane, arbiter_setBand, if_neg other]
      simpa [holds] using holder
  · rw [arbiter_setLane, arbiter_setBand] at held
    rw [group, lane_setLane]
    split at held
    next same =>
      obtain rfl : l = m := BandCondition.held.inj (band.symm.trans held)
      rw [if_pos rfl, same]
      exact ⟨member, by rw [show Lane.state _ = _ from state]; exact works⟩
    next other =>
      obtain ⟨own, working⟩ := but.holder k m other held
      have apart : m ≠ l := by
        rintro rfl
        exact other (own.symm.trans member)
      rw [if_neg apart]
      exact ⟨own, working⟩
  · by_cases own : m = l
    · subst own
      rw [lane_setLane_same, show Lane.ask _ = _ from ask] at asking
      exact absurd asking (by decide)
    · rw [lane_setLane_other _ _ own] at asking ⊢
      exact but.asks m asking

/-- The end of a guard frees the band, or grants it to a lane that asks. -/
theorem BandsSoundBut.takeGuardEnd (but : s.BandsSoundBut g) : (s.takeGuardEnd g).bandsSound := by
  rcases takeGuardEnd_cases s g with ⟨-, free⟩ | ⟨m, chosen, granted⟩
  · rw [free]
    exact (but.setBand _).sound (by simp)
  · rw [granted]
    exact but.granted rfl chosen.waits.2 (but.asks m chosen.waits.1) _

theorem BandsSoundBut.release (but : s.BandsSoundBut g) : (s.release g).bandsSound := by
  unfold State.release
  dsimp only
  split
  · exact (but.setBand _).takeGuardEnd
  · exact (but.setBand _).sound (by simp)

/-! ## The acts of a lane and an arbiter -/

/-- A lane written that has nothing in flight and does not ask gives up the band it holds. -/
theorem bandsSound.releaseIfHeld (sound : s.bandsSound) (settings : x.settings = (s.lane l).settings)
    (flight : x.flight = .nothing) (ask : x.ask = false) : ((s.setLane l x).releaseIfHeld l).bandsSound := by
  unfold State.releaseIfHeld
  rw [holds_setLane settings]
  split
  next holder =>
    rw [groupOf_setLane settings]
    exact (sound.but_of_holder holder settings flight (by simp [ask])).release
  next idle =>
    exact sound.setLane settings (by simp [flight]) (fun holder => absurd holder idle) (by simp [ask])

theorem bandsSound.askBand (sound : s.bandsSound) (works : (s.lane l).state.hasWork = true) : (s.askBand l).bandsSound := by
  cases holder : s.holds l with
  | true => rwa [askBand_of_holder holder]
  | false =>
    by_cases free : (s.arbiter (s.groupOf l)).band = .free
    · rw [askBand_of_free free]
      exact (sound.but_of_idle (by simp [free])).granted rfl rfl works _
    · rw [askBand_of_taken holder free]
      exact sound.setLane rfl (sound.1 l) (fun _ => works) fun _ => works

/-- A holder with nothing in flight decides: it runs a probe, gives way and asks again, or makes its next round start. -/
theorem bandsSound.decideNext (sound : s.bandsSound) (holder : s.holds l = true) (flight : (s.lane l).flight = .nothing) :
    (s.decideNext l).bandsSound := by
  have works := sound.holder_works holder
  have broken : (s.lane l).breakCycle.settings = (s.lane l).settings ∧ (s.lane l).breakCycle.state = (s.lane l).state
      ∧ (s.lane l).breakCycle.flight = (s.lane l).flight := by
    rw [Lane.breakCycle_eq]
    exact ⟨rfl, rfl, rfl⟩
  obtain ⟨settings, state, idle⟩ := broken
  obtain ⟨runs, gives, stays⟩ := decideNext_eq s l
  by_cases empty : (s.lane l).probes = []
  · by_cases must : s.MustGiveWay l
    · rw [gives empty must, giveWay_eq]
      refine (sound.but_of_holder holder settings (idle.trans flight) fun _ => by rwa [state]).release.askBand ?_
      rw [(bandWork_release ..).state, lane_setLane_same, state]
      exact works
    · have counted : (s.setBand (s.groupOf l) { s.arbiter (s.groupOf l) with
          tenureCount := min 15 ((s.arbiter (s.groupOf l)).tenureCount + 1) }).bandsSound := sound.setBand rfl
      rw [stays empty must, roundStart_eq, ← Lane.begun_of_empty _ _ empty]
      exact counted.setLane_holder (by simpa [holds] using holder) (Lane.begun_settings ..) (Lane.begun_state ..)
  · rw [runs empty]
    exact sound.setLane_holder holder ((Lane.begun_settings ..).trans settings) ((Lane.begun_state ..).trans state)

theorem bandsSound.flightEnds (sound : s.bandsSound) (ends : s.FlightEnds l t) : t.bandsSound := by
  obtain ⟨y, ended, written⟩ := ends
  have lane : (s.setLane l y).bandsSound :=
    sound.setLane ended.settings (fun flying => sound.1 l fun idle => flying (ended.flight idle))
      (fun holder => by rw [ended.state]; exact sound.holder_works holder)
      fun asking => by rw [ended.state]; exact sound.2.2 l (ended.ask ▸ asking)
  rcases written with rfl | ⟨flying, idle, rfl⟩
  · exact lane
  · exact lane.decideNext ((holds_setLane ended.settings).trans (sound.1 l flying)) (by rwa [lane_setLane_same])

theorem bandsSound.startProbe (sound : s.bandsSound) (holder : s.holds l = true) : (s.startProbe l).bandsSound := by
  by_cases queued : (s.lane l).probes = []
  · rwa [startProbe_of_idle (.inl queued)]
  · rw [startProbe_eq queued]
    exact sound.setLane_holder holder (Lane.begun_settings ..) (Lane.begun_state ..)

/-- A probe that has joined the queue of a lane in service starts, waits, or makes the lane ask. -/
theorem bandsSound.probeJoined (sound : s.bandsSound) (queued : (s.lane l).probes ≠ []) (works : (s.lane l).state.hasWork = true) :
    (s.probeJoined l).bandsSound := by
  cases holder : s.holds l with
  | true =>
    cases flight : (s.lane l).flight with
    | rounds form inner outer =>
      rw [probeJoined_of_rounds holder ⟨_, _, _, flight⟩ queued]
      refine sound.setLane_holder holder ((Lane.begun_settings ..).trans ?_) ((Lane.begun_state ..).trans ?_)
      all_goals rw [Lane.interrupted_eq]
    | nothing =>
      rw [probeJoined_of_idle holder flight queued]
      exact sound.setLane_holder holder (Lane.begun_settings ..) (Lane.begun_state ..)
    | probe form faulted => rwa [probeJoined_of_probe holder flight]
  | false =>
    rw [probeJoined_of_no_band holder]
    split
    · exact sound
    · exact sound.askBand works

/-- A DISABLED lane holds no band. -/
theorem bandsSound.idle_of_disabled (sound : s.bandsSound) (disabled : (s.lane l).state = .disabled) : s.holds l = false := by
  cases holder : s.holds l with
  | true =>
    have works := sound.holder_works holder
    rw [disabled] at works
    exact absurd works (by decide)
  | false => rfl

/-- A DISABLED lane has nothing in flight and does not ask. -/
theorem bandsSound.calm_of_disabled (sound : s.bandsSound) (disabled : (s.lane l).state = .disabled) :
    (s.lane l).flight = .nothing ∧ (s.lane l).ask = false := by
  refine ⟨?_, ?_⟩
  · by_contra flying
    have holder := sound.1 l flying
    rw [sound.idle_of_disabled disabled] at holder
    exact absurd holder (by decide)
  · by_contra asking
    have works := sound.2.2 l (by simpa using asking)
    rw [disabled] at works
    exact absurd works (by decide)

/-- A lane that has left service may be written with another state. -/
theorem bandsSound.leaves (sound : s.bandsSound) (out : x.OutOfWork) : ((s.sweeperLeaves l).setLane l x).bandsSound := by
  have left : (s.sweeperLeaves l).bandsSound := sound.releaseIfHeld (x := (s.lane l).swept) rfl rfl rfl
  exact left.setLane_unheld (sweeperLeaves_own s l).2 out.flight (by simp [out.ask])

end State

end Sys2Proof.Machine

/-! # What changes neither a lane nor an arbiter

The events of the two request ports keep the ports within their sizes, and the requests and claims change the ports, the table, the log
and what is on its way. -/

namespace Sys2Proof.Machine

/-! ## The desk bus port within its sizes (09 R166, R167) -/

namespace DeskPort

variable {d : DeskPort}

theorem bounded_of_empty (buffer : d.buffer = []) (supplied : d.supplied = 0) : d.Bounded := by
  unfold Bounded
  rw [buffer, supplied]
  exact ⟨Nat.zero_le _, Nat.zero_le _⟩

theorem take_bounded (d : DeskPort) : d.take.Bounded := by
  refine bounded_of_empty d.take_spec.2.2.2.1 ?_
  unfold take
  split <;> rfl

theorem ignore_bounded (d : DeskPort) : d.ignore.Bounded := bounded_of_empty rfl rfl

theorem stop_bounded (d : DeskPort) : d.stop.Bounded := bounded_of_empty rfl rfl

theorem replyWith_bounded (h : d.Bounded) {bytes : List Byte} (some : bytes ≠ []) : (d.replyWith bytes).Bounded :=
  ⟨h.1, List.length_pos_iff.2 some⟩

theorem holdEnded_bounded (h : d.Bounded) : d.holdEnded.Bounded := by
  unfold holdEnded
  split
  next formed =>
    obtain ⟨-, -, some⟩ := (replyFormed_iff d).1 formed
    exact replyWith_bounded h some
  · exact h

theorem firstAddress_bounded (d : DeskPort) (address : BitVec 7) (direction : Direction) :
    (d.firstAddress address direction).Bounded := by
  unfold firstAddress
  split
  · cases direction with
    | write => exact bounded_of_empty rfl rfl
    | read => exact take_bounded _
  · exact ignore_bounded d

theorem addressByte_bounded (h : d.Bounded) (address : BitVec 7) (direction : Direction) :
    (d.addressByte address direction).Bounded := by
  have ended := holdEnded_bounded h
  unfold addressByte
  dsimp only
  cases d.holdEnded.state with
  | receiving =>
    dsimp only
    split
    · exact take_bounded _
    · exact firstAddress_bounded ..
  | idle | replying | spent => exact firstAddress_bounded ..
  | ignoring | working => exact ended

theorem writeByte_bounded (h : d.Bounded) (b : Byte) : (d.writeByte b).Bounded := by
  obtain ⟨buffer, supplied⟩ := id h
  unfold writeByte
  cases d.state with
  | receiving =>
    dsimp only
    split
    · split
      · exact ⟨by simp [Config.deskBufferBytes], supplied⟩
      · exact ignore_bounded d
    · split
      next room => exact ⟨by simpa using room, supplied⟩
      · exact ⟨buffer, supplied⟩
  | ignoring | idle | working | replying | spent => exact h

theorem stopCondition_bounded (h : d.Bounded) : d.stopCondition.Bounded := by
  have ended := holdEnded_bounded h
  unfold stopCondition
  dsimp only
  cases d.holdEnded.state with
  | receiving | replying | spent | ignoring => exact stop_bounded _
  | idle | working => exact ended

theorem replyByte_bounded (h : d.Bounded) : d.replyByte.Bounded := by
  have ended := holdEnded_bounded h
  unfold replyByte
  dsimp only
  cases d.holdEnded.state with
  | replying => exact ⟨ended.1, Nat.min_le_left ..⟩
  | idle | receiving | working | spent | ignoring => exact ended

theorem replyDeclined_bounded (h : d.Bounded) : d.replyDeclined.Bounded := by
  have ended := holdEnded_bounded h
  unfold replyDeclined
  dsimp only
  cases d.holdEnded.state with
  | replying | idle | receiving | working | spent | ignoring => exact ended

theorem softRestart_bounded (h : d.Bounded) : d.softRestart.Bounded := by
  unfold softRestart
  cases d.state with
  | idle => exact h
  | receiving | working | replying | spent | ignoring => exact ignore_bounded d

end DeskPort

/-! ## The receive buffer within its size (10 R179), and the NOTICE line -/

namespace LinkPort

/-- The receive buffer, the notice set and the NOTICE line are the same. -/
structure SameLines (p q : LinkPort) : Prop where
  buffer : q.buffer = p.buffer
  notices : q.notices = p.notices
  line : q.noticeLine = p.noticeLine

variable {p q : LinkPort}

theorem SameLines.kept (h : p.SameLines q) : p.Kept q := .of_same h.buffer h.notices h.line

theorem goodFrame_sameLines (p : LinkPort) (kind : Byte) (body : List Byte) : p.SameLines (p.goodFrame kind body) := by
  unfold goodFrame countersAtTaking
  cases parseLinkRequest kind body <;> exact ⟨rfl, rfl, rfl⟩

theorem badFrame_sameLines (p : LinkPort) : p.SameLines p.badFrame := ⟨rfl, rfl, rfl⟩

/-- A frame looked at is bad, good or not yet whole. -/
theorem examine_sameLines (p : LinkPort) : p.SameLines p.examine := by
  unfold examine
  split
  · dsimp only
    split
    · exact badFrame_sameLines p
    · split
      · exact ⟨rfl, rfl, rfl⟩
      · split
        · split
          · exact goodFrame_sameLines ..
          · exact badFrame_sameLines p
        · exact badFrame_sameLines p
  · exact ⟨rfl, rfl, rfl⟩

theorem takeByte_sameLines (p : LinkPort) (now : Time) (b : Byte) : p.SameLines (p.takeByte now b) := by
  unfold takeByte
  split
  · split <;> exact ⟨rfl, rfl, rfl⟩
  · obtain ⟨buffer, notices, line⟩ := examine_sameLines { p with frame := p.frame ++ [b], quietSince := now }
    exact ⟨buffer, notices, line⟩
  · exact ⟨rfl, rfl, rfl⟩
  · exact ⟨rfl, rfl, rfl⟩

/-- The bytes left waiting are among those that were to be taken, and the NOTICE line stays. -/
theorem pump_spec (now : Time) (bytes : List Byte) (p : LinkPort) :
    (pump now bytes p).buffer.length ≤ bytes.length ∧ (pump now bytes p).notices = p.notices
      ∧ (pump now bytes p).noticeLine = p.noticeLine := by
  induction bytes generalizing p with
  | nil => exact ⟨Nat.zero_le _, rfl, rfl⟩
  | cons b bytes ih =>
    unfold pump
    split
    · obtain ⟨length, notices, line⟩ := ih (p.takeByte now b)
      obtain ⟨-, sameNotices, sameLine⟩ := p.takeByte_sameLines now b
      exact ⟨Nat.le_succ_of_le length, notices.trans sameNotices, line.trans sameLine⟩
    · exact ⟨Nat.le_refl _, rfl, rfl⟩

theorem kept_of_pump {now : Time} {bytes : List Byte} (bound : p.Bounded → bytes.length ≤ 1024) (notices : q.notices = p.notices)
    (line : q.noticeLine = p.noticeLine) : p.Kept (pump now bytes q) := by
  obtain ⟨length, sameNotices, sameLine⟩ := pump_spec now bytes q
  refine ⟨fun bounded => Nat.le_trans length (bound bounded), fun lined => ?_⟩
  unfold Lined
  rwa [sameNotices, sameLine, notices, line]

theorem byteArrives_kept (p : LinkPort) (now : Time) (b : Byte) : p.Kept (p.byteArrives now b) := by
  unfold byteArrives
  split
  · exact .of_same rfl rfl rfl
  next room =>
    simp only [Config.receiveBufferBytes, Nat.not_le] at room
    exact kept_of_pump (fun _ => by rw [List.length_append]; exact room) rfl rfl

theorem replyLeft_kept (p : LinkPort) (now : Time) : p.Kept (p.replyLeft now) := kept_of_pump id rfl rfl

/-- A notice raised asserts the line. -/
theorem kept_of_raise (p : LinkPort) (n : Notice) : p.Kept { p with notices := p.notices.add n, noticeLine := true } := by
  refine ⟨id, fun _ => ?_⟩
  unfold Lined
  cases n <;> simp [NoticeSet.add]

/-- The set emptied releases the line. -/
theorem kept_of_empty (p : LinkPort) : p.Kept { p with notices := NoticeSet.empty, noticeLine := false } := ⟨id, fun _ => rfl⟩

end LinkPort

/-! ## Bytes of replies -/

theorem itemsReply_ne_nil (k : ItemKind) (rs : List ItemResult) : itemsReply k rs ≠ [] := by simp [itemsReply]
theorem codeReply_ne_nil (c : Code) : codeReply c ≠ [] := by simp [codeReply]
theorem countReply_ne_nil (n : Nat) : countReply n ≠ [] := by simp [countReply]
theorem walkReply_ne_nil (es : List Entry) : walkReply es ≠ [] := by simp [walkReply, countReply]

/-! ## Operations that leave the lanes and the arbiters -/

namespace State

theorem asideOnly_desk {s : State} {d : DeskPort} (kept : s.desk.Bounded → d.Bounded) : AsideOnly s { s with desk := d } :=
  ⟨rfl, rfl, rfl, kept, .refl _⟩

theorem asideOnly_link {s : State} {p : LinkPort} (kept : s.link.Kept p) : AsideOnly s { s with link := p } :=
  ⟨rfl, rfl, rfl, id, kept⟩

theorem asideOnly_raise (s : State) (n : Notice) : AsideOnly s (s.raise n) := asideOnly_link (s.link.kept_of_raise n)

theorem asideOnly_setWork (s : State) (p : PortId) (w : Work) : AsideOnly s (s.setWork p w) := by
  cases p with
  | desk => exact asideOnly_desk id
  | link => exact asideOnly_link (.of_same rfl rfl rfl)

theorem asideOnly_replyOn (s : State) (p : PortId) (k : Byte) {bytes : List Byte} (some : bytes ≠ []) :
    AsideOnly s (s.replyOn p k bytes) := by
  cases p with
  | desk => exact asideOnly_desk fun bounded => DeskPort.replyWith_bounded bounded some
  | link => exact asideOnly_link (.of_same rfl rfl rfl)

/-- The service link puts its reply into a frame, so it has bytes to send whatever the reply is. -/
theorem asideOnly_linkReply (s : State) (k : Byte) (bytes : List Byte) : AsideOnly s (s.linkReply k bytes) :=
  asideOnly_link (.of_same rfl rfl rfl)

theorem asideOnly_setPort (s : State) (p : TablePort) : AsideOnly s (s.setPort p) := .of_same rfl rfl rfl rfl rfl

theorem asideOnly_setRecords (s : State) (rs : List AlarmRecord) : AsideOnly s (s.setRecords rs) := .of_same rfl rfl rfl rfl rfl

/-! ### Requests -/

theorem asideOnly_offerClaim (s : State) (p : PortId) (c : Claim) : AsideOnly s (s.offerClaim p c) := by
  unfold offerClaim
  split
  · exact asideOnly_setPort ..
  · split <;> exact asideOnly_setPort ..

theorem asideOnly_workItems (s : State) (p : PortId) (k : ItemKind) (src : Source) (o : ClaimOptions) (xs : List RawItem)
    (rs : List ItemResult) : AsideOnly s (s.workItems p k src o xs rs) := by
  induction xs generalizing rs with
  | nil => exact asideOnly_replyOn _ _ _ (itemsReply_ne_nil _ _)
  | cons x xs ih =>
    unfold workItems
    split
    · exact ih _
    · exact (asideOnly_offerClaim ..).trans (asideOnly_setWork ..)

theorem asideOnly_serveItems (s : State) (p : PortId) (k : ItemKind) : AsideOnly s (s.serveItems p k) := by
  refine serve_keeps p (AsideOnly.refl s) fun src kind r t _ answer => ?_
  split at answer
  · split at answer
    · cases answer
      unfold beginItems
      split
      · exact asideOnly_workItems ..
      · exact asideOnly_replyOn _ _ _ (itemsReply_ne_nil _ _)
    · cases answer
  · cases answer

theorem asideOnly_serveBatch (s : State) (p : PortId) (k : BatchKind) : AsideOnly s (s.serveBatch p k) := by
  refine serve_keeps p (AsideOnly.refl s) fun src kind r t _ answer => ?_
  split at answer
  · split at answer
    · cases answer
      unfold beginBatch
      split
      · split
        · exact asideOnly_replyOn _ _ _ (codeReply_ne_nil _)
        · exact (asideOnly_offerClaim ..).trans (asideOnly_setWork ..)
      · exact asideOnly_replyOn _ _ _ (codeReply_ne_nil _)
    · cases answer
  · cases answer

theorem asideOnly_setStanding (s : State) (d : DeskId) (r : Option Standing) : AsideOnly s (s.setStanding d r) :=
  .of_same rfl rfl rfl rfl rfl

theorem asideOnly_serveStanding (s : State) : AsideOnly s s.serveStanding := by
  refine serve_keeps .desk (AsideOnly.refl s) fun src kind r t _ answer => ?_
  split at answer
  next d i _ =>
    have kept : AsideOnly s (s.standingRequest d i).1 := by
      unfold standingRequest
      dsimp only
      split
      · exact AsideOnly.refl s
      · split
        · exact asideOnly_setStanding ..
        · exact AsideOnly.refl s
    generalize s.standingRequest d i = result at answer kept
    cases answer
    exact kept.trans (asideOnly_replyOn _ _ _ (codeReply_ne_nil _))
  · cases answer

theorem asideOnly_serveEndStanding (s : State) : AsideOnly s s.serveEndStanding := by
  refine serve_keeps .desk (AsideOnly.refl s) fun src kind r t _ answer => ?_
  split at answer
  · cases answer
    exact (asideOnly_setStanding ..).trans (asideOnly_replyOn _ _ _ (codeReply_ne_nil _))
  · cases answer

theorem asideOnly_serveBad (s : State) (p : PortId) : AsideOnly s (s.serveBad p) := by
  refine serve_keeps p (AsideOnly.refl s) fun src kind r t _ answer => ?_
  split at answer
  · cases answer
    exact asideOnly_replyOn _ _ _ (codeReply_ne_nil _)
  · cases answer

/-! ### Claims -/

theorem asideOnly_makeRoom {s t : State} (made : s.makeRoom = some t) : AsideOnly s t := by
  rcases makeRoom_cases s with ⟨-, room⟩ | ⟨-, v, -, room⟩ | ⟨-, -, room⟩
  · obtain rfl := Option.some.inj (room.symm.trans made)
    exact .refl s
  · obtain rfl := Option.some.inj (room.symm.trans made)
    exact .of_same rfl rfl rfl rfl rfl
  · exact absurd (room.symm.trans made) (by simp)

theorem asideOnly_create (s : State) (c : Code) {add : State → State} (adds : ∀ t, AsideOnly t (add t)) :
    AsideOnly s (s.create c add).1 := by
  unfold create
  split
  next t made => exact (asideOnly_makeRoom made).trans (adds t)
  · exact asideOnly_raise ..

theorem asideOnly_settleAbsent (s : State) (i : Item) (src : Source) (o : ClaimOptions) (r : AlarmRecord) :
    AsideOnly s (s.settleAbsent i src o r).1 := by
  unfold settleAbsent
  split
  · exact .of_same rfl rfl rfl rfl rfl
  · exact asideOnly_create s _ fun _ => .of_same rfl rfl rfl rfl rfl

theorem asideOnly_settlePending (s : State) (e : Entry) (a : Option Nat) (r : AlarmRecord) :
    AsideOnly s (s.settlePending e a r) := by
  rw [settlePending_eq]
  split <;> exact .of_same rfl rfl rfl rfl rfl

theorem asideOnly_holdClaim (s : State) (i : Item) (src : Source) (o : ClaimOptions) :
    AsideOnly s (s.holdClaim i src o).1 := by
  unfold holdClaim
  split
  · split
    · exact .refl s
    · exact asideOnly_create s _ fun _ => .of_same rfl rfl rfl rfl rfl
  · split
    · split
      · exact .of_same rfl rfl rfl rfl rfl
      · exact .refl s
    · exact .refl s
    · exact .refl s

theorem asideOnly_issueClaim (s : State) (i : Item) (src : Source) (o : ClaimOptions) :
    AsideOnly s (s.issueClaim i src o).1 := by
  unfold issueClaim
  split
  · split
    · exact asideOnly_settleAbsent ..
    · exact asideOnly_create s _ fun _ => .of_same rfl rfl rfl rfl rfl
  · split
    · split
      · split
        · exact asideOnly_settlePending ..
        · exact .of_same rfl rfl rfl rfl rfl
      · exact .refl s
    · exact .of_same rfl rfl rfl rfl rfl
    · exact .of_same rfl rfl rfl rfl rfl

theorem asideOnly_confirmClaim (s : State) (i : Item) (src : Source) (o : ClaimOptions) :
    AsideOnly s (s.confirmClaim i src o).1 := by
  unfold confirmClaim
  split
  · split
    · exact asideOnly_settleAbsent ..
    · exact .refl s
  · split
    · split
      · split
        · exact asideOnly_settlePending ..
        · exact .of_same rfl rfl rfl rfl rfl
      · exact .refl s
    · exact .refl s
    · exact .refl s

theorem asideOnly_cancelClaim (s : State) (i : Item) (src : Source) : AsideOnly s (s.cancelClaim i src).1 := by
  unfold cancelClaim
  split
  · exact .refl s
  · split
    · split
      · exact .of_same rfl rfl rfl rfl rfl
      · exact .refl s
    · exact .refl s
    · exact .refl s

theorem asideOnly_dischargeClaim (s : State) (i : Item) : AsideOnly s (s.dischargeClaim i).1 := by
  unfold dischargeClaim
  split
  · exact .refl s
  · split
    · exact .refl s
    all_goals exact .of_same rfl rfl rfl rfl rfl

theorem asideOnly_loadClaim (s : State) (i : Item) (o : ClaimOptions) : AsideOnly s (s.loadClaim i o).1 := by
  unfold loadClaim
  split
  · exact asideOnly_create s _ fun _ => .of_same rfl rfl rfl rfl rfl
  · split
    · exact .refl s
    all_goals exact .of_same rfl rfl rfl rfl rfl

theorem asideOnly_itemClaim (s : State) (k : ItemKind) (i : Item) (src : Source) (o : ClaimOptions) :
    AsideOnly s (s.itemClaim k i src o).1 := by
  cases k with
  | hold => exact asideOnly_holdClaim s i src o
  | issue => exact asideOnly_issueClaim s i src o
  | confirm => exact asideOnly_confirmClaim s i src o
  | cancel => exact asideOnly_cancelClaim s i src
  | discharge => exact asideOnly_dischargeClaim s i
  | query => exact .refl s
  | load => exact asideOnly_loadClaim s i o

theorem asideOnly_takeFrom (s : State) (p : PortId) : AsideOnly s (s.takeFrom p) := by
  obtain ⟨q, taken⟩ := takeFrom_eq s p
  rw [taken]
  exact asideOnly_setPort ..

theorem asideOnly_takeItemClaim (s : State) (k : ItemKind) : AsideOnly s (s.takeItemClaim k) := by
  unfold takeItemClaim
  split
  next p k' i src o _ =>
    split
    · have claimed := (asideOnly_takeFrom s p).trans (asideOnly_itemClaim (s.takeFrom p) k i src o)
      dsimp only
      split
      · exact claimed.trans (asideOnly_workItems ..)
      · exact claimed
    · exact .refl s
  · exact .refl s

theorem asideOnly_batchClaim (s : State) (k : BatchKind) (requester : Source) (e : Entry) :
    AsideOnly s (s.batchClaim k requester e).1 := by
  unfold batchClaim
  split
  · split
    · exact .of_same rfl rfl rfl rfl rfl
    · exact .refl s
  · exact .of_same rfl rfl rfl rfl rfl

theorem asideOnly_continueBatch (s : State) (p : PortId) (k : BatchKind) (c : Claim) (n : Nat) :
    AsideOnly s (s.continueBatch p k c n) := by
  unfold continueBatch
  split
  · exact asideOnly_replyOn _ _ _ (countReply_ne_nil _)
  · exact (asideOnly_offerClaim ..).trans (asideOnly_setWork ..)

theorem asideOnly_takeBatchClaim (s : State) (k : BatchKind) : AsideOnly s (s.takeBatchClaim k) := by
  unfold takeBatchClaim
  split
  next p k' requester sel b cursor _ =>
    split
    · have taken := asideOnly_takeFrom s p
      dsimp only
      split
      · split
        · exact taken.trans (asideOnly_replyOn _ _ _ (countReply_ne_nil _))
        · exact taken
      next e _ =>
        have claimed := taken.trans (asideOnly_batchClaim (s.takeFrom p) k requester e)
        split
        · exact claimed.trans (asideOnly_continueBatch ..)
        · exact claimed
    · exact .refl s
  · exact .refl s

theorem asideOnly_takeWalkClaim (s : State) : AsideOnly s s.takeWalkClaim := by
  unfold takeWalkClaim
  split
  · exact (asideOnly_takeFrom ..).trans (asideOnly_replyOn _ _ _ (walkReply_ne_nil _))
  · exact .refl s

theorem asideOnly_clearTableClaim (s : State) : AsideOnly s s.clearTableClaim.1 := by
  unfold clearTableClaim
  split
  · exact .of_same rfl rfl rfl rfl rfl
  · exact .refl s

theorem asideOnly_takeClearTableClaim (s : State) : AsideOnly s s.takeClearTableClaim := by
  unfold takeClearTableClaim
  split
  · exact ((asideOnly_takeFrom ..).trans (asideOnly_clearTableClaim _)).trans (asideOnly_replyOn _ _ _ (codeReply_ne_nil _))
  · exact .refl s

theorem asideOnly_judgeEffect (s : State) (i : Item) (l : LaneId) : AsideOnly s (s.judgeEffect i l) := by
  unfold judgeEffect
  split
  · rw [departEntry_eq]
    split <;> exact .of_same rfl rfl rfl rfl rfl
  · exact .refl s

theorem asideOnly_takeJudgeClaim (s : State) : AsideOnly s s.takeJudgeClaim := by
  unfold takeJudgeClaim
  split
  next i l _ _ =>
    refine AsideOnly.trans (t := (s.setPort (s.port.served .judge)).judgeEffect i l) ?_ (.of_same rfl rfl rfl rfl rfl)
    exact (asideOnly_setPort ..).trans (asideOnly_judgeEffect ..)
  · exact .refl s

theorem asideOnly_offerExpiry (s : State) : AsideOnly s s.offerExpiry := by
  unfold offerExpiry
  split
  · exact .of_same rfl rfl rfl rfl rfl
  · exact .refl s

theorem asideOnly_expiryEffect (s : State) (i : Item) : AsideOnly s (s.expiryEffect i) := by
  unfold expiryEffect
  split
  · split
    · unfold expireEntry
      dsimp only
      split <;> exact .of_same rfl rfl rfl rfl rfl
    · exact .refl s
  · exact .refl s

theorem asideOnly_takeExpiryClaim (s : State) : AsideOnly s s.takeExpiryClaim := by
  unfold takeExpiryClaim
  split
  · exact ((asideOnly_setPort ..).trans (asideOnly_expiryEffect ..)).trans (asideOnly_offerExpiry _)
  · exact .refl s

/-! ### The judgement unit and the alarm log -/

theorem asideOnly_offerJudge (s : State) : AsideOnly s s.offerJudge := by
  unfold offerJudge
  split
  · split
    · exact .of_same rfl rfl rfl rfl rfl
    · exact .refl s
  · exact .refl s

theorem asideOnly_modJudgement (s : State) (i : Item) (f : Judgement → Judgement) : AsideOnly s (s.modJudgement i f) :=
  .of_same rfl rfl rfl rfl rfl

theorem asideOnly_joinAsking (s : State) (i : Item) : AsideOnly s (s.joinAsking i) :=
  AsideOnly.trans (t := { s with judge := { s.judge with asking := s.judge.asking ++ [i] } }) (.of_same rfl rfl rfl rfl rfl)
    (asideOnly_offerJudge _)

theorem asideOnly_askAgain (s : State) (i : Item) : AsideOnly s (s.askAgain i) :=
  (asideOnly_modJudgement ..).trans (asideOnly_joinAsking ..)

theorem asideOnly_removeJudgements (s : State) (test : Judgement → Bool) : AsideOnly s (s.removeJudgements test) := by
  unfold removeJudgements
  refine AsideOnly.trans ?_ (asideOnly_offerJudge _)
  exact .of_same rfl rfl rfl rfl rfl

theorem asideOnly_makeLogRoom (s : State) : AsideOnly s s.makeLogRoom := by
  unfold makeLogRoom
  split
  · exact .refl s
  · split
    · exact asideOnly_setRecords ..
    · refine AsideOnly.trans ?_ (asideOnly_raise _ _)
      exact .of_same rfl rfl rfl rfl rfl

theorem asideOnly_raiseAlarm (s : State) (a : Raising) : AsideOnly s (s.raiseAlarm a) := by
  unfold raiseAlarm
  refine (asideOnly_makeLogRoom s).trans (AsideOnly.trans ?_ (asideOnly_raise _ _))
  exact .of_same rfl rfl rfl rfl rfl

end State

end Sys2Proof.Machine

/-! # What the commands do to the lanes and the arbiters

Each command keeps an invariant, since it comes to the operations that keep it. -/

namespace Sys2Proof.Machine

namespace State

variable {s : State} {l : LaneId} {h : HeadPos}

/-! ## The end of a round or a probe on a head -/

/-- A lane is written, and nothing more. -/
theorem flightEnds_of_written {t : State} {y : Lane} (written : t = s.setLane l y) (ended : (s.lane l).FlightEnded y) :
    s.FlightEnds l t := ⟨y, ended, .inl written⟩

/-- A lane is written with nothing in flight any more, and decides. -/
theorem flightEnds_of_decided {t : State} {y : Lane} (written : t = (s.setLane l y).decideNext l) (flying : (s.lane l).flight ≠ .nothing)
    (idle : y.flight = .nothing) (ended : (s.lane l).FlightEnded y) : s.FlightEnds l t := ⟨y, ended, .inr ⟨flying, idle, written⟩⟩

theorem flightEnds_self (s : State) (l : LaneId) : s.FlightEnds l s :=
  flightEnds_of_written (setLane_lane s l).symm (.refl _)

theorem flightEnds_roundEnded (s : State) (l : LaneId) (half : Half) : s.FlightEnds l (s.roundEnded l half) := by
  have uncounted (none : ∀ form inner outer, (s.lane l).flight ≠ .rounds form inner outer) :
      s.roundEnded l half = s.setLane l ((s.lane l).counted half) := by
    unfold roundEnded
    rw [countHalf_eq]
    dsimp only
    rw [lane_setLane_same, show ((s.lane l).counted half).flight = (s.lane l).flight from rfl]
    cases flight : (s.lane l).flight with
    | rounds form inner outer => exact absurd flight (none form inner outer)
    | nothing | probe form faulted => cases half.head <;> rfl
  cases flight : (s.lane l).flight with
  | rounds form inner outer =>
    have flying : (s.lane l).flight ≠ .nothing := by simp [flight]
    rcases half_cases form inner outer (s.lane l).buffer half with ⟨r, completes⟩ | ⟨rfl, innerFirst, outerFirst⟩ | ⟨rfl, head⟩
    · exact flightEnds_of_decided (roundEnded_of_complete flight completes) flying rfl
        ⟨rfl, rfl, fun _ => rfl, rfl, .inl ⟨rfl, rfl, rfl⟩⟩
    · exact flightEnds_of_written (roundEnded_of_first_half flight innerFirst outerFirst)
        ⟨rfl, rfl, fun idle => absurd idle flying, rfl, .inl ⟨rfl, rfl, rfl⟩⟩
    · exact flightEnds_of_decided (roundEnded_of_inner_half flight head) flying rfl
        ⟨rfl, rfl, fun _ => rfl, rfl, .inl ⟨rfl, rfl, rfl⟩⟩
  | nothing | probe form faulted =>
    exact flightEnds_of_written (uncounted (by simp [flight])) ⟨rfl, rfl, id, rfl, .inl ⟨rfl, rfl, rfl⟩⟩

theorem flightEnds_endProbe (s : State) (l : LaneId) (o : ProbeOutcome) : s.FlightEnds l (s.endProbe l o) := by
  cases flight : (s.lane l).flight with
  | probe form faulted =>
    rcases front : (s.lane l).probes with _ | ⟨e, queue⟩
    · rw [endProbe_of_empty o front]
      exact flightEnds_self s l
    · exact flightEnds_of_decided (endProbe_eq o flight front) (by simp [flight]) rfl
        ⟨rfl, rfl, fun _ => rfl, rfl, .inr ⟨e, queue, front, rfl, rfl⟩⟩
  | nothing | rounds form inner outer =>
    unfold endProbe
    rw [flight]
    exact flightEnds_self s l

/-- A head that has found nothing ends the probe, waits for the other head, or passes the probe on to it. -/
theorem flightEnds_probeHeadEnded (s : State) (l : LaneId) (h : HeadPos) (byFault : Bool) :
    s.FlightEnds l (s.probeHeadEnded l h byFault) := by
  cases flight : (s.lane l).flight with
  | probe form faulted =>
    have flying : (s.lane l).flight ≠ .nothing := by simp [flight]
    by_cases last : (form = .paired → ((s.lane l).head (otherHead h)).probeOut = false) ∧ (form = .alternate → h = .outer)
    · rw [probeHeadEnded_of_last byFault flight last.1 last.2]
      exact flightEnds_endProbe ..
    · cases form with
      | paired =>
        have out : ((s.lane l).head (otherHead h)).probeOut = true := by simpa using last
        exact flightEnds_of_written (probeHeadEnded_of_paired byFault flight out)
          ⟨rfl, rfl, fun idle => absurd idle flying, rfl, .inl ⟨rfl, rfl, rfl⟩⟩
      | alternate =>
        obtain rfl : h = .inner := by
          cases h with
          | inner => rfl
          | outer => simp at last
        rcases front : (s.lane l).probes with _ | ⟨e, queue⟩
        · rw [probeHeadEnded_of_empty byFault flight front]
          exact flightEnds_self s l
        · exact flightEnds_of_written (probeHeadEnded_of_inner byFault flight front)
            ⟨rfl, rfl, fun idle => absurd idle flying, rfl, .inl ⟨rfl, rfl, rfl⟩⟩
      | single w => simp at last
  | nothing | rounds form inner outer =>
    unfold probeHeadEnded
    rw [flight]
    exact flightEnds_self s l

theorem flightEnds_flightFaulted (s : State) (l : LaneId) (h : HeadPos) : s.FlightEnds l (s.flightFaulted l h) := by
  unfold flightFaulted
  split
  · exact flightEnds_roundEnded ..
  · exact flightEnds_probeHeadEnded ..
  · exact flightEnds_self s l

/-! ## A lane out of service -/

/-- Its judgements removed, the lane that leaves service is written. -/
theorem asideOnly_leaveService (s : State) (l : LaneId) (x : Lane) :
    AsideOnly ((s.sweeperLeaves l).setLane l x) ((s.leaveService l).setLane l x) := by
  have removed (t : State) (test : Judgement → Bool) : AsideOnly (t.setLane l x) ((t.removeJudgements test).setLane l x) := by
    obtain ⟨time, lanes, bands, desk, link⟩ := asideOnly_removeJudgements t test
    exact ⟨time, congrArg (·.set l x) lanes, bands, desk, link⟩
  have written := removed ((s.sweeperLeaves l).setLane l ((s.lane l).left (s.exitsDropped l))) fun j => j.owner == l
  rwa [setLane_setLane, ← leaveService_eq] at written

end State

theorem Lane.quiet_setHead (x : Lane) (h : HeadPos) (u : HeadUnit) : x.Quiet (x.setHead h u) := by
  rw [setHead_frame]
  exact ⟨rfl, rfl, rfl, rfl, rfl, rfl, id⟩

namespace StepInvariant

open State

variable {P : State → Prop} (inv : StepInvariant P) {s : State}
include inv

/-! ## The lanes -/

theorem modHead (h : P s) (l : LaneId) (k : HeadPos) (f : HeadUnit → HeadUnit) : P (s.modHead l k f) := by
  rw [modHead_eq]
  exact inv.quiet h (Lane.quiet_setHead ..)

theorem modLane (h : P s) {l : LaneId} {f : Lane → Lane} (quiet : (s.lane l).Quiet (f (s.lane l))) : P (s.modLane l f) :=
  inv.quiet h quiet

theorem raise (h : P s) (n : Notice) : P (s.raise n) := inv.aside h (asideOnly_raise s n)

theorem linkReply (h : P s) (kind : Byte) (bytes : List Byte) : P (s.linkReply kind bytes) := inv.aside h (asideOnly_linkReply ..)

/-- The work of a host's command that ends with its reply. -/
theorem of_linkReply {t : State} {kind : Byte} {bytes : List Byte} (answer : some (s.linkReply kind bytes) = some t) (h : P s) : P t := by
  obtain rfl := Option.some.inj answer
  exact inv.linkReply h ..

theorem driveLane (h : P s) (l : LaneId) : P (s.driveLane l) := by
  unfold State.driveLane
  exact inv.modLane h ⟨rfl, rfl, rfl, rfl, rfl, rfl, id⟩

theorem drive (h : P s) : P s.drive := by
  unfold State.drive
  exact foldl_lanes_keeps (motive := P) (fun _ l kept => inv.driveLane kept l) allLanes h

theorem enterStopped (h : P s) (l : LaneId) : P (s.enterStopped l) := by
  rw [enterStopped_eq]
  exact inv.stops l (inv.raise h .fault)

theorem leaveStarting (h : P s) (l : LaneId) : P (s.leaveStarting l) := by
  unfold State.leaveStarting
  dsimp only
  split
  · exact h
  · split
    · exact inv.enters l h rfl
    · split
      · have entered (t : State) (x : Lane) : (t.setLane l x).raise .fault = (t.raise .fault).setLane l x := rfl
        unfold State.modLane
        rw [entered]
        exact inv.enters l (inv.raise h .fault) rfl
      · exact inv.enterStopped h l

theorem countFaultedRound (h : P s) (l : LaneId) (k : HeadPos) : P (s.countFaultedRound l k) := by
  obtain ⟨n, counted⟩ := countFaultedRound_eq s l k
  rw [counted]
  exact inv.quiet h ⟨rfl, rfl, rfl, rfl, rfl, rfl, id⟩

theorem headFaulted (h : P s) (l : LaneId) (k : HeadPos) : P (s.headFaulted l k) := by
  cases state : (s.lane l).state with
  | starting =>
    rw [headFaulted_of_starting state]
    exact inv.leaveStarting h l
  | inService =>
    cases policy : (s.lane l).settings.faultPolicy with
    | single =>
      rw [headFaulted_of_goes_on state policy]
      exact inv.flightEnds (inv.raise (inv.goesOn h state) .fault) (flightEnds_flightFaulted ..)
    | stop =>
      rw [headFaulted_of_stop (.inl ⟨state, policy⟩)]
      exact inv.enterStopped (inv.countFaultedRound h l k) l
  | single =>
    rw [headFaulted_of_stop (.inr state)]
    exact inv.enterStopped (inv.countFaultedRound h l k) l
  | disabled | stopped =>
    unfold State.headFaulted
    rw [state]
    exact h

theorem attemptFailed (h : P s) (l : LaneId) (k : HeadPos) : P (s.attemptFailed l k) := by
  unfold State.attemptFailed
  dsimp only
  split
  · exact inv.headFaulted (inv.modHead (inv.modHead h ..) ..) l k
  · exact inv.modHead (inv.modHead h ..) ..

theorem takeIdent (h : P s) (l : LaneId) (k position : HeadPos) : P (s.takeIdent l k position) := by
  unfold State.takeIdent
  split
  · split <;> exact inv.leaveStarting (inv.modHead h ..) l
  · exact inv.modHead h ..

theorem takeRound (h : P s) (l : LaneId) (k : HeadPos) (q : BitVec 8) (overflow : Bool) (codes : List TagCode) :
    P (s.takeRound l k q overflow codes) := by
  unfold State.takeRound
  split
  · exact inv.flightEnds (inv.modHead h ..) (flightEnds_roundEnded ..)
  · exact inv.modHead h ..

theorem takeProbe (h : P s) (l : LaneId) (k : HeadPos) (q : BitVec 8) (found : Bool) : P (s.takeProbe l k q found) := by
  unfold State.takeProbe
  dsimp only
  split
  · split
    · exact inv.flightEnds (inv.modHead (inv.modHead h ..) ..) (flightEnds_endProbe ..)
    · exact inv.flightEnds (inv.modHead h ..) (flightEnds_probeHeadEnded ..)
  · exact inv.modHead h ..

theorem discardMessage (h : P s) (l : LaneId) (k : HeadPos) : P (s.discardMessage l k) := by
  unfold State.discardMessage
  dsimp only
  split
  · exact inv.attemptFailed (inv.modHead h ..) l k
  · exact inv.modHead h ..

theorem sendAbort (h : P s) (l : LaneId) (k : HeadPos) : P (s.sendAbort l k) := by
  unfold State.sendAbort
  dsimp only
  split
  · split
    next holder => exact inv.probeStarts (inv.modHead h ..) holder
    · exact inv.modHead h ..
  · exact h

theorem startLane (h : P s) {l : LaneId} (disabled : (s.lane l).state = .disabled) : P (s.startLane l) := by
  have started : P (s.setLane l { s.lane l with state := .starting }) := inv.starts h disabled
  have written : s.startLane l = (s.setLane l { s.lane l with state := .starting }).setLane l
      { s.lane l with state := .starting, inner := (s.lane l).inner.ident s.hallTime, outer := (s.lane l).outer.ident s.hallTime } := by
    rw [setLane_setLane, startLane_eq]
  rw [written]
  refine inv.quiet started ?_
  rw [lane_setLane_same]
  exact ⟨rfl, rfl, rfl, rfl, rfl, rfl, id⟩

/-- A lane that has left service may come to any state. -/
theorem leaveService (h : P s) {l : LaneId} {x : Lane} (settings : x.settings = (s.lane l).settings) (out : x.OutOfWork) :
    P ((s.leaveService l).setLane l x) :=
  inv.aside (inv.leaves h settings out) (asideOnly_leaveService s l x)

theorem restartLane (h : P s) (l : LaneId) : P (s.restartLane l) := by
  by_cases disabled : (s.lane l).state = .disabled
  · rw [restartLane_of_disabled disabled]
    exact inv.startLane h disabled
  · rw [restartLane_eq_leaves disabled]
    exact inv.leaveService h rfl ⟨rfl, rfl, rfl, rfl, rfl⟩

theorem disableLane (h : P s) (l : LaneId) : P (s.disableLane l) := by
  by_cases disabled : (s.lane l).state = .disabled
  · rwa [disableLane_of_disabled disabled]
  · rw [disableLane_of_enabled disabled]
    exact inv.leaveService h rfl ⟨rfl, rfl, rfl, rfl, rfl⟩

theorem takeReport (h : P s) (l : LaneId) (r : CycleReport) : P (s.takeReport l r) := by
  unfold State.takeReport
  dsimp only
  split
  · exact inv.modLane h ⟨rfl, rfl, rfl, rfl, rfl, rfl, id⟩
  · exact inv.raise (inv.modLane h ⟨rfl, rfl, rfl, rfl, rfl, rfl, id⟩) _

/-! ## The judgement unit -/

theorem giveVerdict (h : P s) (l : LaneId) (i : Item) (v : Verdict) (f : LaneCounts → LaneCounts) :
    P ((s.returnVerdict l i v).modCounts l f) :=
  inv.modLane (inv.modLane h ⟨rfl, rfl, rfl, rfl, rfl, rfl, id⟩) ⟨rfl, rfl, rfl, rfl, rfl, rfl, id⟩

theorem giveShadow (h : P s) (l : LaneId) (i : Item) : P (s.giveShadow l i) := inv.giveVerdict h ..

theorem givePass (h : P s) (j : Judgement) : P (s.givePass j) := by
  unfold State.givePass
  exact inv.giveVerdict (inv.aside h (asideOnly_modJudgement ..)) ..

theorem giveStray (h : P s) (j : Judgement) : P (s.giveStray j) := by
  unfold State.giveStray
  exact inv.giveVerdict (inv.aside h (asideOnly_modJudgement ..)) ..

theorem giveAlarm (h : P s) (j : Judgement) (unverified : Bool) : P (s.giveAlarm j unverified) := by
  unfold State.giveAlarm
  exact inv.giveVerdict (inv.aside h ((asideOnly_raiseAlarm ..).trans (asideOnly_modJudgement ..))) ..

theorem verify (h : P s) (i : Item) : P (s.verify i) := by
  cases found : s.findJudgement i with
  | none =>
    unfold State.verify
    rwa [found]
  | some j =>
    by_cases accepts : (s.lane j.owner).settings.verify = true ∧ s.acceptsProbe j.owner = true
    · rw [verify_of_accepts found accepts.1 accepts.2]
      exact inv.probeJoins _ _ (inv.aside h (asideOnly_modJudgement ..)) accepts.2
    · rw [verify_of_refused found accepts]
      exact inv.giveAlarm h j true

theorem ignoreProbe (h : P s) (l : LaneId) (i : Item) : P (s.ignoreProbe l i) := by
  have items (rs : List AwaitedProbe) :
      (rs.map fun r => if r.item == i then { r with live := false } else r).map AwaitedProbe.item = rs.map AwaitedProbe.item := by
    rw [List.map_map]
    refine List.map_congr_left fun r _ => ?_
    show AwaitedProbe.item (if _ then _ else _) = _
    split <;> rfl
  exact inv.modLane h ⟨rfl, rfl, rfl, rfl, rfl, items _, fun none => congrArg (List.map _) none⟩

theorem handOver (h : P s) (l : LaneId) (raw : Option Item) (j : Judgement) : P (s.handOver l raw j) := by
  have shadowed : P ((s.modJudgement j.item fun e => { e with owner := l, raw := raw }).giveShadow j.owner j.item) :=
    inv.giveShadow (inv.aside h (asideOnly_modJudgement ..)) ..
  unfold State.handOver
  dsimp only
  split
  · exact inv.aside shadowed (.of_same rfl rfl rfl rfl rfl)
  · exact inv.verify (inv.ignoreProbe shadowed ..) _
  all_goals exact shadowed

theorem takePassage (h : P s) (l : LaneId) (i : Item) (raw : Option Item) (cls : ItemClass) : P (s.takePassage l i raw cls) := by
  have added (j : Judgement) : P (s.addJudgement j) := inv.aside h (.of_same rfl rfl rfl rfl rfl)
  unfold State.takePassage
  split
  · split
    · exact inv.handOver h l raw _
    · exact inv.giveVerdict h ..
  · split
    · exact inv.giveVerdict (added _) ..
    · exact inv.giveVerdict (added _) ..
    · exact inv.verify (added _) i
    all_goals exact inv.aside (added _) (asideOnly_joinAsking ..)

theorem actOnAnswer (h : P s) (i : Item) (a : JudgeAnswer) : P (s.actOnAnswer i a) := by
  have judged (f : Judgement → Judgement) : P (s.modJudgement i f) := inv.aside h (asideOnly_modJudgement ..)
  unfold State.actOnAnswer
  dsimp only
  split
  · exact h
  · split
    · exact inv.givePass h _
    · exact judged _
    · split
      · exact inv.verify (judged _) i
      · exact judged _
    · exact inv.verify (judged _) i

theorem takeAnswer (h : P s) (i : Item) (a : JudgeAnswer) : P (s.takeAnswer i a) := by
  unfold State.takeAnswer
  dsimp only
  split
  · refine inv.aside (inv.actOnAnswer ?_ i a) (asideOnly_offerJudge _)
    exact inv.aside h (.of_same rfl rfl rfl rfl rfl)
  · refine inv.aside ?_ (asideOnly_offerJudge _)
    exact inv.aside h (.of_same rfl rfl rfl rfl rfl)

theorem takeNotice (h : P s) (i : Item) (k : ChangeKind) : P (s.takeNotice i k) := by
  unfold State.takeNotice
  split
  · exact h
  · split
    · exact h
    · split
      · exact inv.aside h (asideOnly_askAgain ..)
      · exact inv.aside h (asideOnly_askAgain ..)
      · exact inv.aside h (asideOnly_modJudgement ..)
      · exact inv.verify h i
      · exact inv.aside (inv.ignoreProbe h ..) (asideOnly_askAgain ..)
      · exact inv.aside (inv.ignoreProbe h ..) (asideOnly_modJudgement ..)
      all_goals exact h

theorem takeProbeResult (h : P s) (l : LaneId) : P (s.takeProbeResult l) := by
  unfold State.takeProbeResult
  dsimp only
  split
  · exact h
  next r results waiting =>
    have taken : P (s.modLane l fun x => { x with results := results }) :=
      inv.modLane h ⟨rfl, rfl, rfl, rfl, rfl, rfl, fun none => absurd (waiting.symm.trans none) (by simp)⟩
    split
    · unfold actOnProbe
      split
      · exact taken
      · split
        · exact inv.giveAlarm taken ..
        · exact inv.giveAlarm taken ..
        · exact inv.giveStray taken _
    · exact taken

/-! ## Lane requests, and the soft restart -/

theorem serveAckLane (h : P s) (p : PortId) : P (s.serveAckLane p) := by
  refine serve_keeps p h fun src kind r t _ answer => ?_
  split at answer
  · cases answer
    unfold laneRequest
    split
    · exact inv.aside h (asideOnly_replyOn _ _ _ (codeReply_ne_nil _))
    · split
      · exact inv.drive (inv.aside (inv.aside h (asideOnly_setRecords ..)) (asideOnly_replyOn _ _ _ (countReply_ne_nil _)))
      · exact inv.aside h (asideOnly_replyOn _ _ _ (codeReply_ne_nil _))
  · cases answer

theorem serveRestartLane (h : P s) (p : PortId) : P (s.serveRestartLane p) := by
  refine serve_keeps p h fun src kind r t _ answer => ?_
  split at answer
  · cases answer
    unfold laneRequest
    split
    · exact inv.aside h (asideOnly_replyOn _ _ _ (codeReply_ne_nil _))
    · split
      · exact inv.drive (inv.aside (inv.restartLane h _) (asideOnly_replyOn _ _ _ (codeReply_ne_nil _)))
      · exact inv.aside h (asideOnly_replyOn _ _ _ (codeReply_ne_nil _))
  · cases answer

theorem softRestart (h : P s) : P s.softRestart := by
  have served : P s.carryOutDesk := by
    unfold carryOutDesk
    exact inv.serveRestartLane (inv.serveAckLane
      (inv.aside h ((asideOnly_serveStanding s).trans (asideOnly_serveEndStanding _))) .desk) .desk
  have restarted : P ({ s.carryOutDesk with standing := Vector.replicate 15 none } : State).restartLanes.restartJudgement :=
    inv.restarts (inv.aside served (.of_same rfl rfl rfl rfl rfl))
  have desk (t : State) : AsideOnly t t.restartDesk := ⟨rfl, rfl, rfl, DeskPort.softRestart_bounded, .refl _⟩
  refine inv.aside ?_ (desk _)
  exact inv.aside restarted (asideOnly_setRecords ..)

end StepInvariant

/-! ## Every command -/

/-- A command answers a next state of which the property holds. -/
def Keeps (P : State → Prop) (c : Instr) (s : State) : Prop := ∃ t, exec c s = .next t ∧ P t

/-- A command of the host keeps a property where its work does. -/
theorem keeps_serveLink {P : State → Prop} {s : State} (h : P s) {c : Instr} {f : Byte → Request → Option State}
    (answers : exec c s = .next (s.serveLink f)) (work : ∀ k r t, f k r = some t → P t) : Keeps P c s :=
  ⟨_, answers, State.serve_keeps .link h fun _ k r t _ answer => work k r t answer⟩

namespace StepInvariant

open State

variable {P : State → Prop} (inv : StepInvariant P) {s : State} (h : P s)
include inv h

theorem keeps_of_aside {c : Instr} {t : State} (answers : exec c s = .next t) (aside : AsideOnly s t) : Keeps P c s :=
  ⟨t, answers, inv.aside h aside⟩

/-! ### The commands of the host -/

/-- A command of the host that names a lane keeps an invariant where its act does. -/
theorem withLane (kind : Byte) (lane : Nat) {act : LaneId → State} (acts : ∀ l, P (act l)) : P (s.withLane kind lane act) := by
  unfold State.withLane
  split
  · exact acts _
  · exact inv.linkReply h ..

theorem keeps_setHall : Keeps P .setHall s := by
  refine keeps_serveLink h rfl fun _ _ _ answer => ?_
  split at answer
  · split at answer
    · exact inv.of_linkReply answer (inv.aside h (.of_same rfl rfl rfl rfl rfl))
    · exact inv.of_linkReply answer h
  · cases answer

theorem keeps_setWindow : Keeps P .setWindow s := by
  refine keeps_serveLink h rfl fun _ _ _ answer => ?_
  split at answer
  · split at answer
    · exact inv.of_linkReply answer (inv.aside h (.of_same rfl rfl rfl rfl rfl))
    · exact inv.of_linkReply answer h
  · cases answer

theorem keeps_setRights : Keeps P .setRights s := by
  refine keeps_serveLink h rfl fun _ _ _ answer => ?_
  split at answer
  · split at answer
    · exact inv.of_linkReply answer (inv.aside h (.of_same rfl rfl rfl rfl rfl))
    · exact inv.of_linkReply answer h
  · cases answer

theorem keeps_setLane : Keeps P .setLane s := by
  refine keeps_serveLink h rfl fun _ _ _ answer => ?_
  split at answer
  · cases answer
    refine inv.withLane h _ _ fun l => ?_
    split
    · exact inv.linkReply h ..
    next disabled =>
      split
      next v _ => exact inv.linkReply (inv.configures v h (by simpa using disabled)) ..
      · exact inv.linkReply h ..
  · cases answer

theorem keeps_enableLane : Keeps P .enableLane s := by
  refine keeps_serveLink h rfl fun _ _ _ answer => ?_
  split at answer
  · cases answer
    refine inv.withLane h _ _ fun l => ?_
    split
    next disabled => exact inv.drive (inv.linkReply (inv.startLane h (by simpa using disabled)) ..)
    · exact inv.linkReply h ..
  · cases answer

theorem keeps_disableLane : Keeps P .disableLane s := by
  refine keeps_serveLink h rfl fun _ _ _ answer => ?_
  split at answer
  · cases answer
    exact inv.withLane h _ _ fun l => inv.drive (inv.linkReply (inv.disableLane h l) ..)
  · cases answer

theorem keeps_readLane : Keeps P .readLane s := by
  refine keeps_serveLink h rfl fun _ _ _ answer => ?_
  split at answer
  · cases answer
    refine inv.withLane h _ _ fun l => ?_
    refine inv.linkReply ?_ ..
    exact inv.aside h (.of_same rfl rfl rfl rfl rfl)
  · cases answer

theorem keeps_readStatus : Keeps P .readStatus s := by
  refine keeps_serveLink h rfl fun _ _ _ answer => ?_
  split at answer
  · exact inv.of_linkReply answer h
  · cases answer

theorem clearCounters : P s.clearCounters := by
  unfold State.clearCounters
  refine inv.aside (s := allLanes.foldl (fun s l => s.modLane l clearLane) s) ?_ ⟨rfl, rfl, rfl, id, .refl _⟩
  exact foldl_lanes_keeps (motive := P)
    (fun _ _ kept => inv.modLane kept ⟨rfl, rfl, rfl, rfl, rfl, rfl, id⟩) allLanes h

theorem keeps_clearCounts : Keeps P .clearCounts s := by
  refine keeps_serveLink h rfl fun _ _ _ answer => ?_
  split at answer
  · exact inv.of_linkReply answer (inv.clearCounters h)
  · cases answer

theorem keeps_readAlarms : Keeps P .readAlarms s := by
  refine keeps_serveLink h rfl fun _ _ _ answer => ?_
  split at answer
  · split at answer <;> exact inv.of_linkReply answer h
  · cases answer

theorem keeps_ackAlarm : Keeps P .ackAlarm s := by
  refine keeps_serveLink h rfl fun _ _ _ answer => ?_
  split at answer
  · split at answer
    · cases answer
      exact inv.drive (inv.linkReply (inv.aside h (asideOnly_setRecords ..)) ..)
    · exact inv.of_linkReply answer h
  · cases answer

theorem keeps_clearLog : Keeps P .clearLog s := by
  refine keeps_serveLink h rfl fun _ _ _ answer => ?_
  split at answer
  · exact inv.of_linkReply answer (inv.aside h (asideOnly_setRecords ..))
  · cases answer

theorem keeps_readNotices : Keeps P .readNotices s := by
  refine keeps_serveLink h rfl fun _ _ _ answer => ?_
  split at answer
  · exact inv.of_linkReply answer (inv.aside h (asideOnly_link s.link.kept_of_empty))
  · cases answer

theorem keeps_restart : Keeps P .restart s := by
  refine ⟨_, rfl, serve_keeps .link h fun src k r t _ answer => ?_⟩
  split at answer
  · obtain rfl := Option.some.inj answer
    exact inv.drive (inv.aside (inv.softRestart h) (asideOnly_replyOn _ _ _ (codeReply_ne_nil _)))
  · cases answer

/-! ### The requests of both ports -/

theorem keeps_walk : Keeps P .walk s := by
  refine ⟨_, rfl, serve_keeps .link h fun src k r t _ answer => ?_⟩
  split at answer
  · cases answer
    exact inv.aside h ((asideOnly_offerClaim ..).trans (asideOnly_setWork ..))
  · cases answer

theorem keeps_clearTable : Keeps P .clearTable s := by
  refine ⟨_, rfl, serve_keeps .link h fun src k r t _ answer => ?_⟩
  split at answer
  · cases answer
    exact inv.aside h ((asideOnly_offerClaim ..).trans (asideOnly_setWork ..))
  · cases answer

theorem keeps_badRequest (p : PortId) : Keeps P (.badRequest p) s := by
  refine inv.keeps_of_aside h rfl ?_
  split
  next formed =>
    have desk : s.desk.replyFormed = true := by
      unfold State.replyFormed at formed
      exact (Bool.and_eq_true_iff.1 formed).2
    exact asideOnly_replyOn _ _ _ ((DeskPort.replyFormed_iff _).1 desk).2.2
  · exact asideOnly_serveBad s p

/-! ### Head links, cycle reports and the judgement unit -/

theorem keeps_identReply (l : LaneId) (k : HeadPos) (m : List Byte) : Keeps P (.identReply l k m) s := by
  refine ⟨_, rfl, ?_⟩
  split
  · exact inv.drive (inv.takeIdent h ..)
  · exact h

theorem keeps_roundReport (l : LaneId) (k : HeadPos) (m : List Byte) : Keeps P (.roundReport l k m) s := by
  refine ⟨_, rfl, ?_⟩
  split
  · exact inv.takeRound h ..
  · exact h

theorem keeps_probeReport (l : LaneId) (k : HeadPos) (m : List Byte) : Keeps P (.probeReport l k m) s := by
  refine ⟨_, rfl, ?_⟩
  split
  · exact inv.takeProbe h ..
  · exact h

theorem keeps_headMessageDiscarded (l : LaneId) (k : HeadPos) (m : List Byte) : Keeps P (.headMessageDiscarded l k m) s := by
  refine ⟨_, rfl, ?_⟩
  split
  · exact inv.drive (inv.discardMessage h ..)
  · exact h

theorem keeps_roundTimeout (l : LaneId) (k : HeadPos) : Keeps P (.roundTimeout l k) s := by
  refine ⟨_, rfl, ?_⟩
  split
  · exact inv.drive (inv.attemptFailed h ..)
  · exact h

theorem keeps_cycleReport (l : LaneId) : Keeps P (.cycleReport l) s := by
  refine ⟨_, rfl, ?_⟩
  split
  · refine inv.takeReport ?_ ..
    exact inv.modLane h ⟨rfl, rfl, rfl, rfl, rfl, rfl, id⟩
  · exact h

theorem keeps_passage (l : LaneId) : Keeps P (.passage l) s := by
  refine ⟨_, rfl, ?_⟩
  split
  · refine inv.drive (inv.takePassage ?_ ..)
    exact inv.modLane h ⟨rfl, rfl, rfl, rfl, rfl, rfl, id⟩
  · exact h

theorem keeps_verdict (l : LaneId) : Keeps P (.verdict l) s := by
  refine ⟨_, rfl, ?_⟩
  split
  · exact inv.quiet h ⟨rfl, rfl, rfl, rfl, rfl, rfl, id⟩
  · exact h

theorem keeps_judgeAnswer : Keeps P .judgeAnswer s := by
  refine ⟨_, rfl, ?_⟩
  split
  · refine inv.drive (inv.takeAnswer ?_ ..)
    exact inv.aside h (.of_same rfl rfl rfl rfl rfl)
  · exact h

theorem keeps_changeNotice : Keeps P .changeNotice s := by
  refine ⟨_, rfl, ?_⟩
  split
  · refine inv.drive (inv.takeNotice ?_ ..)
    exact inv.aside h (.of_same rfl rfl rfl rfl rfl)
  · exact h

theorem keeps_graceEnd (i : Item) : Keeps P (.graceEnd i) s := by
  refine ⟨_, rfl, ?_⟩
  split
  · split
    · exact inv.drive (inv.verify h i)
    · exact h
  · exact h

theorem keeps_passageRemovalReport (l : LaneId) : Keeps P (.passageRemovalReport l) s := by
  refine ⟨_, rfl, ?_⟩
  split
  · refine inv.drive (inv.aside ?_ (asideOnly_removeJudgements ..))
    exact inv.modLane h ⟨rfl, rfl, rfl, rfl, rfl, rfl, id⟩
  · exact h

/-! ### Deadlines -/

theorem keeps_standingEnd (d : DeskId) : Keeps P (.standingEnd d) s := by
  refine inv.keeps_of_aside h rfl ?_
  split
  · exact asideOnly_setStanding ..
  · exact .refl s

theorem keeps_soundingEnd (n : BitVec 16) : Keeps P (.soundingEnd n) s := by
  refine ⟨_, rfl, ?_⟩
  split
  · exact inv.quiet h ⟨rfl, rfl, rfl, rfl, rfl, rfl, id⟩
  · exact h

theorem keeps_guardEnd (g : GroupId) : Keeps P (.guardEnd g) s := by
  refine ⟨_, rfl, ?_⟩
  split
  next ended =>
    unfold guardOver at ended
    exact inv.guardEnd h (beq_iff_eq.1 (Bool.and_eq_true_iff.1 ended).1)
  · exact h

/-! ### Events of the two ports -/

theorem keeps_modDesk {c : Instr} {f : DeskPort → DeskPort} (answers : exec c s = .next (s.modDesk f))
    (kept : s.desk.Bounded → (f s.desk).Bounded) : Keeps P c s :=
  inv.keeps_of_aside h answers (asideOnly_desk kept)

theorem keeps_deskRepeatedStartWrite (a : BitVec 7) (d : Direction) : Keeps P (.deskRepeatedStartWrite a d) s := by
  refine inv.keeps_modDesk h rfl fun bounded => ?_
  split
  · exact DeskPort.firstAddress_bounded ..
  · exact bounded

theorem keeps_frameTimeout : Keeps P .frameTimeout s := by
  refine inv.keeps_of_aside h rfl (asideOnly_link ?_)
  dsimp only
  split
  · exact (s.link.badFrame_sameLines).kept
  · exact .refl _

theorem keeps_replySent : Keeps P .replySent s := by
  refine inv.keeps_of_aside h rfl (asideOnly_link ?_)
  dsimp only
  split
  · exact s.link.replyLeft_kept _
  · exact .refl _

theorem exec_keeps (c : Instr) : Keeps P c s := by
  cases c with
  | powerOnReset a r => exact ⟨_, rfl, inv.aside (inv.reset a r) (.of_same rfl rfl rfl rfl rfl)⟩
  | restart => exact inv.keeps_restart h
  | hold p => exact inv.keeps_of_aside h rfl (asideOnly_serveItems s p .hold)
  | issue p => exact inv.keeps_of_aside h rfl (asideOnly_serveItems s p .issue)
  | confirm p => exact inv.keeps_of_aside h rfl (asideOnly_serveItems s p .confirm)
  | cancel p => exact inv.keeps_of_aside h rfl (asideOnly_serveItems s p .cancel)
  | confirmBatch p => exact inv.keeps_of_aside h rfl (asideOnly_serveBatch s p .confirm)
  | cancelBatch p => exact inv.keeps_of_aside h rfl (asideOnly_serveBatch s p .cancel)
  | discharge p => exact inv.keeps_of_aside h rfl (asideOnly_serveItems s p .discharge)
  | query p => exact inv.keeps_of_aside h rfl (asideOnly_serveItems s p .query)
  | load => exact inv.keeps_of_aside h rfl (asideOnly_serveItems s .link .load)
  | walk => exact inv.keeps_walk h
  | clearTable => exact inv.keeps_clearTable h
  | standing => exact inv.keeps_of_aside h rfl (asideOnly_serveStanding s)
  | endStanding => exact inv.keeps_of_aside h rfl (asideOnly_serveEndStanding s)
  | ackLane p => exact ⟨_, rfl, inv.serveAckLane h p⟩
  | restartLane p => exact ⟨_, rfl, inv.serveRestartLane h p⟩
  | setHall => exact inv.keeps_setHall h
  | setWindow => exact inv.keeps_setWindow h
  | setRights => exact inv.keeps_setRights h
  | setLane => exact inv.keeps_setLane h
  | enableLane => exact inv.keeps_enableLane h
  | disableLane => exact inv.keeps_disableLane h
  | readLane => exact inv.keeps_readLane h
  | readStatus => exact inv.keeps_readStatus h
  | clearCounts => exact inv.keeps_clearCounts h
  | readAlarms => exact inv.keeps_readAlarms h
  | ackAlarm => exact inv.keeps_ackAlarm h
  | clearLog => exact inv.keeps_clearLog h
  | readNotices => exact inv.keeps_readNotices h
  | badRequest p => exact inv.keeps_badRequest h p
  | holdClaim => exact inv.keeps_of_aside h rfl (asideOnly_takeItemClaim s .hold)
  | issueClaim => exact ⟨_, rfl, inv.drive (inv.aside h (asideOnly_takeItemClaim s .issue))⟩
  | confirmClaim => exact ⟨_, rfl, inv.drive (inv.aside h (asideOnly_takeItemClaim s .confirm))⟩
  | cancelClaim => exact inv.keeps_of_aside h rfl (asideOnly_takeItemClaim s .cancel)
  | confirmBatchClaim => exact inv.keeps_of_aside h rfl (asideOnly_takeBatchClaim s .confirm)
  | cancelBatchClaim => exact inv.keeps_of_aside h rfl (asideOnly_takeBatchClaim s .cancel)
  | dischargeClaim => exact inv.keeps_of_aside h rfl (asideOnly_takeItemClaim s .discharge)
  | queryClaim => exact inv.keeps_of_aside h rfl (asideOnly_takeItemClaim s .query)
  | loadClaim => exact inv.keeps_of_aside h rfl (asideOnly_takeItemClaim s .load)
  | walkClaim => exact inv.keeps_of_aside h rfl (asideOnly_takeWalkClaim s)
  | clearTableClaim => exact inv.keeps_of_aside h rfl (asideOnly_takeClearTableClaim s)
  | judge => exact inv.keeps_of_aside h rfl (asideOnly_takeJudgeClaim s)
  | dueTimeReached => exact inv.keeps_of_aside h rfl (asideOnly_offerExpiry s)
  | expiryClaim => exact inv.keeps_of_aside h rfl (asideOnly_takeExpiryClaim s)
  | standingEnd d => exact inv.keeps_standingEnd h d
  | soundingEnd n => exact inv.keeps_soundingEnd h n
  | identReply l k m => exact inv.keeps_identReply h l k m
  | roundReport l k m => exact inv.keeps_roundReport h l k m
  | probeReport l k m => exact inv.keeps_probeReport h l k m
  | headMessageDiscarded l k m => exact inv.keeps_headMessageDiscarded h l k m
  | roundTimeout l k => exact inv.keeps_roundTimeout h l k
  | abort l k => exact ⟨_, rfl, inv.sendAbort h l k⟩
  | guardEnd g => exact inv.keeps_guardEnd h g
  | cycleReport l => exact inv.keeps_cycleReport h l
  | passage l => exact inv.keeps_passage h l
  | verdict l => exact inv.keeps_verdict h l
  | judgeAnswer => exact inv.keeps_judgeAnswer h
  | changeNotice => exact inv.keeps_changeNotice h
  | graceEnd i => exact inv.keeps_graceEnd h i
  | probeResult l => exact ⟨_, rfl, inv.drive (inv.takeProbeResult h l)⟩
  | passageRemovalReport l => exact inv.keeps_passageRemovalReport h l
  | deskAddressByte a d => exact inv.keeps_modDesk h rfl fun bounded => DeskPort.addressByte_bounded bounded a d
  | deskWriteByte b => exact inv.keeps_modDesk h rfl fun bounded => DeskPort.writeByte_bounded bounded b
  | deskRepeatedStartWrite a d => exact inv.keeps_deskRepeatedStartWrite h a d
  | deskStopCondition => exact inv.keeps_modDesk h rfl DeskPort.stopCondition_bounded
  | deskReplyByte => exact inv.keeps_modDesk h rfl DeskPort.replyByte_bounded
  | deskReplyDeclined => exact inv.keeps_modDesk h rfl DeskPort.replyDeclined_bounded
  | serviceByte b => exact inv.keeps_of_aside h rfl (asideOnly_link (s.link.byteArrives_kept _ b))
  | frameTimeout => exact inv.keeps_frameTimeout h
  | replySent => exact inv.keeps_replySent h

/-- A step runs a command on the state with the rest of its queue, or on an idle part what is due, or lets a millisecond pass. -/
theorem step_keeps {t : State} (run : step s = .next t) : P t := by
  have ran {c : Instr} {u : State} (answer : exec c u = .next t) (kept : P u) : P t := by
    obtain ⟨t', answer', kept'⟩ := inv.exec_keeps kept c
    rw [answer'] at answer
    cases answer
    exact kept'
  unfold step at run
  split at run
  · exact ran run (inv.aside h (.of_same rfl rfl rfl rfl rfl))
  · unfold idle at run
    split at run
    · exact ran run h
    · cases run
      exact inv.tick h

end StepInvariant

end Sys2Proof.Machine

/-! # The bands sound is an invariant -/

namespace Sys2Proof.Machine

namespace State

variable {s t : State} {l : LaneId} {x : Lane}

theorem bandsSound.aside (sound : s.bandsSound) (aside : AsideOnly s t) : t.bandsSound := by
  have lane (m : LaneId) : t.lane m = s.lane m := congrArg (·[m]) aside.lanes
  refine sound.congr (fun g => ?_) (fun m => by rw [lane]) (fun m => by rw [lane]) (fun m => by rw [lane]) fun m => ?_
  · exact congrArg BandArbiter.band (congrArg (·[g]) aside.bands)
  · rw [lane]
    exact id

/-- A lane written that is the same to its band. -/
theorem bandsSound.setLane_same (sound : s.bandsSound) (settings : x.settings = (s.lane l).settings)
    (state : x.state = (s.lane l).state) (flight : x.flight = (s.lane l).flight) (ask : x.ask = (s.lane l).ask) :
    (s.setLane l x).bandsSound := by
  refine sound.setLane settings (fun flying => sound.1 l (flight ▸ flying)) (fun holder => ?_) fun asking => ?_
  · rw [state]
    exact sound.holder_works holder
  · rw [state]
    exact sound.2.2 l (ask ▸ asking)

theorem bandsSound.restartIfEnabled (sound : s.bandsSound) (l : LaneId) : (s.restartIfEnabled l).bandsSound := by
  by_cases disabled : (s.lane l).state = .disabled
  · rwa [restartIfEnabled_of_disabled disabled]
  · rw [restartIfEnabled_of_enabled disabled, restartLane_eq_leaves disabled]
    exact (sound.leaves ⟨rfl, rfl, rfl, rfl, rfl⟩).aside (asideOnly_leaveService ..)

theorem restartJudgement_arbiter (s : State) (g : GroupId) : s.restartJudgement.arbiter g = s.arbiter g := by
  rw [restartJudgement_frame]
  rfl

/-- The soft restart withdraws every ask, restarts the lanes one after another, and empties the judgement unit. -/
theorem bandsSound.restarts (sound : s.bandsSound) : s.restartLanes.restartJudgement.bandsSound := by
  have withdrawn : (s.modLanes fun x => { x with ask := false }).bandsSound := by
    have frame := s.modLanes_frame fun x => { x with ask := false }
    refine sound.congr (fun g => ?_) ?_ ?_ ?_ ?_
    · rw [frame]
      rfl
    all_goals simp
  have restarted : s.restartLanes.bandsSound := by
    rw [restartLanes_eq]
    exact foldl_lanes_keeps (motive := bandsSound) (f := State.restartIfEnabled) (fun _ l kept => kept.restartIfEnabled l)
      allLanes withdrawn
  refine restarted.congr (fun g => ?_) ?_ ?_ ?_ ?_
  · rw [restartJudgement_arbiter]
  all_goals simp [lane_restartJudgement]

theorem bandsSound_reset : State.reset.bandsSound := by
  refine ⟨fun l flight => ?_, fun g l held => ?_, fun l asks => ?_⟩
  · rw [reset_lane] at flight
    exact absurd rfl flight
  · rw [reset_arbiter] at held
    cases held
  · rw [reset_lane] at asks
    cases asks

/-- Each operation keeps the bands sound. -/
theorem stepInvariant_bandsSound : StepInvariant bandsSound where
  aside := bandsSound.aside
  reset _ _ := bandsSound_reset.congr (fun _ => rfl) (fun _ => rfl) (fun _ => rfl) (fun _ => rfl) fun _ => id
  tick sound := sound.congr (fun _ => rfl) (fun _ => rfl) (fun _ => rfl) (fun _ => rfl) fun _ => id
  quiet sound quiet := sound.setLane_same quiet.settings quiet.state quiet.flight quiet.ask
  flightEnds := bandsSound.flightEnds
  probeStarts := bandsSound.startProbe
  probeJoins {s l} code i sound accepts := by
    refine (sound.setLane_same (x := (s.lane l).withProbe code i) rfl rfl rfl rfl).probeJoined ?_ ?_
    · rw [lane_setLane_same]
      simp [Lane.withProbe]
    · rw [lane_setLane_same]
      exact ((acceptsProbe_iff s l).1 accepts).1
  guardEnd sound guarding := (sound.but_of_idle (by simp [guarding])).takeGuardEnd
  enters {s} l st sound works := by
    refine bandsSound.askBand ?_ (by rwa [lane_setLane_same])
    exact sound.setLane rfl (sound.1 l) (fun _ => works) fun _ => works
  goesOn {s l} sound state := sound.setLane rfl (sound.1 l) (fun _ => rfl) fun _ => rfl
  stops l sound := sound.releaseIfHeld rfl rfl rfl
  leaves sound _ out := sound.leaves out
  starts {s l} sound disabled := by
    obtain ⟨flight, ask⟩ := sound.calm_of_disabled disabled
    exact sound.setLane_unheld (sound.idle_of_disabled disabled) flight (by simp [ask])
  configures v sound disabled := by
    obtain ⟨flight, ask⟩ := sound.calm_of_disabled disabled
    exact sound.setLane_unheld (sound.idle_of_disabled disabled) flight (by simp [ask])
  restarts := bandsSound.restarts

end State

end Sys2Proof.Machine

/-! # The statements about the bands, settled -/

namespace Sys2Proof.Proofs

open Sys2Proof Sys2Proof.Machine Sys2Proof.Machine.State

/-- Settles O58: two lanes of a group that both have something in flight would both hold its band, and each operation to which the
commands come keeps the bands sound. -/
theorem stepsKeepTheBandsSound : Obligations.StepsKeepTheBandsSound := by
  unfold Obligations.StepsKeepTheBandsSound
  exact fun s sound => ⟨sound.exclusive, fun t run => stepInvariant_bandsSound.step_keeps sound run⟩

end Sys2Proof.Proofs

/-! # What the work on the bands keeps

The arbiters grant and take back their bands, and the holders begin rounds and probes: of no lane the state, the settings, the probe
queue, the awaited probes or the results change, and hall time and the two request ports stay. -/

namespace Sys2Proof.Machine

/-- Hall time and the two request ports are the same. -/
structure SamePorts (s t : State) : Prop where
  hallTime : t.hallTime = s.hallTime
  desk : t.desk = s.desk
  link : t.link = s.link

/-- Hall time and the request ports stay, and of no lane its state, its settings, its probes or their results change. -/
structure WorkKept (s t : State) : Prop where
  ports : SamePorts s t
  lane : ∀ m, (s.lane m).SameWork (t.lane m)

theorem SamePorts.refl (s : State) : SamePorts s s := ⟨rfl, rfl, rfl⟩

theorem SamePorts.trans {s t u : State} (h₁ : SamePorts s t) (h₂ : SamePorts t u) : SamePorts s u :=
  ⟨h₂.hallTime.trans h₁.hallTime, h₂.desk.trans h₁.desk, h₂.link.trans h₁.link⟩

theorem LeavingOnly.samePorts {s t : State} (only : LeavingOnly s t) : SamePorts s t := by
  unfold LeavingOnly at only
  exact ⟨by rw [only], by rw [only], by rw [only]⟩

theorem Lane.SameWork.refl (x : Lane) : x.SameWork x := ⟨rfl, rfl, rfl, rfl, rfl⟩

theorem Lane.SameWork.trans {x y z : Lane} (h₁ : x.SameWork y) (h₂ : y.SameWork z) : x.SameWork z :=
  ⟨h₂.state.trans h₁.state, h₂.settings.trans h₁.settings, h₂.probes.trans h₁.probes, h₂.awaited.trans h₁.awaited,
    h₂.results.trans h₁.results⟩

theorem Lane.sameWork_breakCycle (x : Lane) : x.SameWork x.breakCycle := by
  rw [breakCycle_eq]
  exact ⟨rfl, rfl, rfl, rfl, rfl⟩

namespace WorkKept

variable {s t u : State}

theorem refl (s : State) : WorkKept s s := ⟨.refl s, fun _ => .refl _⟩

theorem trans (h₁ : WorkKept s t) (h₂ : WorkKept t u) : WorkKept s u :=
  ⟨h₁.ports.trans h₂.ports, fun m => (h₁.lane m).trans (h₂.lane m)⟩

/-- Writing a lane first leaves hall time and the ports too. -/
theorem ports_of_written {l : LaneId} {x : Lane} (h : WorkKept (s.setLane l x) t) : SamePorts s t :=
  SamePorts.trans (t := s.setLane l x) ⟨rfl, rfl, rfl⟩ h.ports

end WorkKept

namespace State

theorem workKept_setBand (s : State) (g : GroupId) (a : BandArbiter) : WorkKept s (s.setBand g a) :=
  ⟨⟨rfl, rfl, rfl⟩, fun _ => .refl _⟩

theorem workKept_setLane {s : State} {l : LaneId} {x : Lane} (same : (s.lane l).SameWork x) : WorkKept s (s.setLane l x) := by
  refine ⟨⟨rfl, rfl, rfl⟩, fun m => ?_⟩
  by_cases own : m = l
  · subst own
    rwa [lane_setLane_same]
  · rw [lane_setLane_other s x own]
    exact .refl _

/-- A band granted to a lane, which begins its work. -/
theorem workKept_granted (s : State) (g : GroupId) (a : BandArbiter) (l : LaneId) (now : Time) :
    WorkKept s ((s.setBand g a).setLane l (({ s.lane l with ask := false } : Lane).begun now)) :=
  (workKept_setBand s g a).trans (workKept_setLane (.begun now ⟨rfl, rfl, rfl, rfl, rfl⟩))

theorem workKept_takeGuardEnd (s : State) (g : GroupId) : WorkKept s (s.takeGuardEnd g) := by
  rcases takeGuardEnd_cases s g with ⟨-, free⟩ | ⟨l, -, granted⟩
  · rw [free]
    exact workKept_setBand ..
  · rw [granted]
    exact workKept_granted ..

theorem workKept_release (s : State) (g : GroupId) : WorkKept s (s.release g) := by
  unfold release
  dsimp only
  split
  · exact (workKept_setBand ..).trans (workKept_takeGuardEnd ..)
  · exact workKept_setBand ..

theorem workKept_releaseIfHeld (s : State) (l : LaneId) : WorkKept s (s.releaseIfHeld l) := by
  unfold releaseIfHeld
  split
  · exact workKept_release ..
  · exact .refl s

theorem workKept_askBand (s : State) (l : LaneId) : WorkKept s (s.askBand l) := by
  cases holder : s.holds l with
  | true =>
    rw [askBand_of_holder holder]
    exact .refl s
  | false =>
    by_cases free : (s.arbiter (s.groupOf l)).band = .free
    · rw [askBand_of_free free]
      exact workKept_granted ..
    · rw [askBand_of_taken holder free]
      exact workKept_setLane ⟨rfl, rfl, rfl, rfl, rfl⟩

theorem workKept_decideNext (s : State) (l : LaneId) : WorkKept s (s.decideNext l) := by
  have broken := workKept_setLane (s.lane l).sameWork_breakCycle
  obtain ⟨runs, gives, stays⟩ := decideNext_eq s l
  by_cases empty : (s.lane l).probes = []
  · by_cases must : s.MustGiveWay l
    · rw [gives empty must, giveWay_eq]
      exact (broken.trans (workKept_release ..)).trans (workKept_askBand ..)
    · rw [stays empty must, roundStart_eq, ← Lane.begun_of_empty _ _ empty]
      exact (workKept_setBand ..).trans (workKept_setLane (.begun _ (.refl _)))
  · rw [runs empty]
    exact workKept_setLane ((s.lane l).sameWork_breakCycle.begun _)

theorem workKept_startProbe (s : State) (l : LaneId) : WorkKept s (s.startProbe l) := by
  by_cases queued : (s.lane l).probes = []
  · rw [startProbe_of_idle (.inl queued)]
    exact .refl s
  · rw [startProbe_eq queued]
    exact workKept_setLane (.begun _ (.refl _))

theorem workKept_probeJoined {s : State} {l : LaneId} (queued : (s.lane l).probes ≠ []) : WorkKept s (s.probeJoined l) := by
  cases holder : s.holds l with
  | true =>
    cases flight : (s.lane l).flight with
    | rounds form inner outer =>
      rw [probeJoined_of_rounds holder ⟨_, _, _, flight⟩ queued]
      refine workKept_setLane (.begun _ ?_)
      rw [Lane.interrupted_eq]
      exact ⟨rfl, rfl, rfl, rfl, rfl⟩
    | nothing =>
      rw [probeJoined_of_idle holder flight queued]
      exact workKept_setLane (.begun _ (.refl _))
    | probe form faulted =>
      rw [probeJoined_of_probe holder flight]
      exact .refl s
  | false =>
    rw [probeJoined_of_no_band holder]
    split
    · exact .refl s
    · exact workKept_askBand ..

theorem withProbe_queued (s : State) (l : LaneId) (code : TagCode) (i : Item) :
    ((s.setLane l ((s.lane l).withProbe code i)).lane l).probes ≠ [] := by
  rw [lane_setLane_same]
  simp [Lane.withProbe]

/-! ## Lanes leave service, and every lane restarts -/

/-- A lane leaves service: swept, it gives up the band that it holds. -/
theorem workKept_sweeperLeaves (s : State) (l : LaneId) : WorkKept (s.setLane l (s.lane l).swept) (s.sweeperLeaves l) :=
  workKept_releaseIfHeld ..

theorem samePorts_restarts (s : State) : SamePorts s s.restartLanes.restartJudgement := by
  have withdrawn : SamePorts s (s.modLanes fun x => { x with ask := false }) := by
    rw [modLanes_frame]
    exact ⟨rfl, rfl, rfl⟩
  have restarted : SamePorts s s.restartLanes := by
    rw [restartLanes_eq]
    exact foldl_lanes_keeps (motive := SamePorts s) (f := restartIfEnabled)
      (fun t l kept => kept.trans (leavingOnly_restartIfEnabled t l).samePorts) allLanes withdrawn
  have emptied (t : State) : SamePorts t t.restartJudgement := by
    rw [restartJudgement_frame]
    exact ⟨rfl, rfl, rfl⟩
  exact restarted.trans (emptied _)

/-- The soft restart leaves a lane without an awaited probe: a DISABLED lane as it was, and any other restarted. -/
theorem lane_restarts (s : State) (m : LaneId) : s.restartLanes.restartJudgement.lane m =
    if (s.lane m).state = .disabled then { s.lane m with ask := false, awaited := [] }
    else (s.modLanes fun x => { x with ask := false }).restartedLane m := by
  have restarts := lane_foldl_restart allLanes_nodup (s := s.modLanes fun x => { x with ask := false }) (fun k => by simp) m
  rw [lane_restartJudgement, restartLanes_eq, restarts, lane_modLanes]
  by_cases disabled : (s.lane m).state = .disabled
  · simp [disabled]
  · simp [disabled, mem_allLanes, restartedLane_awaited]

end State

/-! # Invariants about hall time and the request ports -/

/-- A property of hall time and the request ports alone is an invariant where the events of the ports and the passing of time keep it. -/
theorem StepInvariant.of_ports {P : State → Prop} (same : ∀ {s t : State}, P s → SamePorts s t → P t)
    (aside : ∀ {s t : State}, P s → AsideOnly s t → P t) (reset : ∀ a r, P (State.afterPowerOn a r))
    (tick : ∀ {s : State}, P s → P s.tick) : StepInvariant P where
  aside := aside
  reset := reset
  tick := tick
  quiet h _ := same h ⟨rfl, rfl, rfl⟩
  flightEnds {s t l} h ends := by
    obtain ⟨y, -, rfl | ⟨-, -, rfl⟩⟩ := ends
    · exact same h ⟨rfl, rfl, rfl⟩
    · exact same h (State.workKept_decideNext (s.setLane l y) l).ports_of_written
  probeStarts h _ := same h (State.workKept_startProbe ..).ports
  probeJoins {s l} code i h _ := same h (State.workKept_probeJoined (s.withProbe_queued l code i)).ports_of_written
  guardEnd h _ := same h (State.workKept_takeGuardEnd ..).ports
  enters {s} l st h _ := same h (State.workKept_askBand (s.setLane l { s.lane l with state := st }) l).ports_of_written
  goesOn h _ := same h ⟨rfl, rfl, rfl⟩
  stops {s} l h := same h (State.workKept_releaseIfHeld (s.setLane l (s.lane l).stopped) l).ports_of_written
  leaves {s l x} h _ _ := same (same h (s.workKept_sweeperLeaves l).ports_of_written) ⟨rfl, rfl, rfl⟩
  starts h _ := same h ⟨rfl, rfl, rfl⟩
  configures _ h _ := same h ⟨rfl, rfl, rfl⟩
  restarts h := same h (State.samePorts_restarts _)

end Sys2Proof.Machine

namespace Sys2Proof.Machine

namespace State

theorem stepInvariant_hallTimeFits : StepInvariant hallTimeFits := by
  refine .of_ports (fun fits same => ?_) (fun fits aside => ?_) (fun a r => ?_) fun _ => Nat.mod_lt _ (by decide)
  · unfold hallTimeFits
    rwa [same.hallTime]
  · unfold hallTimeFits
    rwa [aside.hallTime]
  · show 0 < hallModulus
    decide

theorem buffersBounded_iff (s : State) : s.buffersBounded ↔ s.link.Bounded ∧ s.desk.Bounded := Iff.rfl

theorem stepInvariant_buffersBounded : StepInvariant buffersBounded := by
  refine .of_ports (fun bounded same => ?_) (fun bounded aside => ?_) (fun a r => ⟨Nat.zero_le _, Nat.zero_le _, Nat.zero_le _⟩)
    fun bounded => bounded
  · unfold buffersBounded
    rwa [same.link, same.desk]
  · obtain ⟨link, desk⟩ := (buffersBounded_iff _).1 bounded
    exact ⟨aside.link.bounded link, aside.desk desk⟩

theorem noticeLineFollowsSet_iff (s : State) : s.noticeLineFollowsSet ↔ s.link.Lined := Iff.rfl

theorem stepInvariant_noticeLineFollowsSet : StepInvariant noticeLineFollowsSet := by
  refine .of_ports (fun lined same => ?_) (fun lined aside => ?_) (fun a r => rfl) fun lined => lined
  · rw [noticeLineFollowsSet_iff, same.link]
    exact lined
  · exact aside.link.lined lined

end State

/-! # Invariants about the probes of each lane -/

/-- A property of a lane's state, its probes and their results that each operation on a lane keeps. -/
structure ProbeClosed (Q : Lane → Prop) : Prop where
  kept {x y : Lane} : Q x → y.state = x.state → y.probes = x.probes
    → y.awaited.map AwaitedProbe.item = x.awaited.map AwaitedProbe.item → (x.results = [] → y.results = []) → Q y
  enabled {x y : Lane} : Q x → y.state ≠ .disabled → y.probes = x.probes → y.awaited = x.awaited → Q y
  /-- the front probe ends (07 R143) -/
  ended {x y : Lane} {e : ProbeEntry} {queue : List ProbeEntry} :
    Q x → x.probes = e :: queue → y.state = x.state → y.probes = queue → y.awaited = x.awaited.drop 1 → Q y
  joined {x : Lane} (code : TagCode) (i : Item) : Q x → x.state.hasWork = true → x.probes.length < 4 → Q (x.withProbe code i)
  emptied {x : Lane} : x.probes = [] → x.awaited = [] → x.results = [] → Q x
  stopped {x : Lane} : Q x → Q x.stopped
  disabled {x : Lane} : Q x → x.state = .disabled → Q { x with ask := false, awaited := [] }

namespace ProbeClosed

variable {Q : Lane → Prop} (closed : ProbeClosed Q) {s t : State} {l : LaneId} {x : Lane}
include closed

theorem sameWork {y : Lane} (h : Q x) (same : x.SameWork y) : Q y :=
  closed.kept h same.state same.probes (by rw [same.awaited]) fun none => by rw [same.results, none]

theorem workKept (h : ∀ m, Q (s.lane m)) (kept : WorkKept s t) (m : LaneId) : Q (t.lane m) := closed.sameWork (h m) (kept.lane m)

omit closed in
theorem setLane (h : ∀ m, Q (s.lane m)) (own : Q x) (m : LaneId) : Q ((s.setLane l x).lane m) := by
  rw [State.lane_setLane]
  split
  · exact own
  · exact h m

theorem flightEnded {y : Lane} (h : Q x) (ended : x.FlightEnded y) : Q y := by
  rcases ended.probes with ⟨probes, awaited, results⟩ | ⟨e, queue, front, rest, awaited⟩
  · exact closed.kept h ended.state probes (by rw [awaited]) fun none => by rw [results, none]
  · exact closed.ended h front ended.state rest awaited

theorem restarts (h : ∀ m, Q (s.lane m)) (m : LaneId) : Q (s.restartLanes.restartJudgement.lane m) := by
  rw [State.lane_restarts]
  split
  next disabled => exact closed.disabled (h m) disabled
  · exact closed.emptied rfl rfl rfl

theorem stepInvariant (reset : ∀ g, Q (Lane.reset g)) : StepInvariant fun s => ∀ m, Q (s.lane m) where
  aside {s t} h aside m := by
    have lane : t.lane m = s.lane m := congrArg (·[m]) aside.lanes
    rw [lane]
    exact h m
  reset a r m := by
    have lane : (State.afterPowerOn a r).lane m = State.reset.lane m := rfl
    rw [lane, State.reset_lane]
    exact reset _
  tick h := h
  quiet {s l x} h quiet := setLane h (closed.kept (h l) quiet.state quiet.probes quiet.awaited quiet.results)
  flightEnds {s t l} h ends := by
    obtain ⟨y, ended, written⟩ := ends
    have lane := setLane h (closed.flightEnded (h l) ended) (l := l)
    rcases written with rfl | ⟨-, -, rfl⟩
    · exact lane
    · exact closed.workKept lane (State.workKept_decideNext ..)
  probeStarts h _ := closed.workKept h (State.workKept_startProbe ..)
  probeJoins {s l} code i h accepts := by
    obtain ⟨works, room⟩ := (State.acceptsProbe_iff s l).1 accepts
    exact closed.workKept (setLane h (closed.joined code i (h l) works room)) (State.workKept_probeJoined (s.withProbe_queued l code i))
  guardEnd h _ := closed.workKept h (State.workKept_takeGuardEnd ..)
  enters {s} l st h works := by
    refine closed.workKept ?_ (State.workKept_askBand ..)
    refine setLane h (closed.enabled (h l) (fun off => ?_) rfl rfl)
    rw [show st = .disabled from off] at works
    exact absurd works (by decide)
  goesOn {s l} h _ := setLane h (closed.enabled (h l) LaneState.noConfusion rfl rfl)
  stops {s} l h :=
    closed.workKept (setLane h (closed.stopped (h l))) (State.workKept_releaseIfHeld (s.setLane l (s.lane l).stopped) l)
  leaves {s l x} h _ out m := by
    by_cases own : m = l
    · subst own
      rw [State.lane_setLane_same]
      exact closed.emptied out.probes out.awaited out.results
    · have kept := (s.workKept_sweeperLeaves l).lane m
      rw [State.lane_setLane_other _ _ own] at kept ⊢
      exact closed.sameWork (h m) kept
  starts {s l} h _ := setLane h (closed.enabled (h l) LaneState.noConfusion rfl rfl)
  configures {s l} v h _ := setLane h (closed.kept (h l) rfl rfl rfl id)
  restarts h := closed.restarts h

end ProbeClosed

/-- The awaited probes of a lane are those of its queue, at most 4, and a DISABLED lane has neither a probe nor a result
(07 R132, 04 R83). -/
def Lane.ProbesMatched (x : Lane) : Prop :=
  x.awaited.map AwaitedProbe.item = x.probes.map ProbeEntry.item ∧ x.awaited.length ≤ Config.probeCapacity
    ∧ (x.state = .disabled → x.results = [] ∧ x.probes = [])

theorem Lane.ProbesMatched.length {x : Lane} (h : x.ProbesMatched) : x.awaited.length = x.probes.length := by
  simpa using congrArg List.length h.1

theorem probeClosed_length : ProbeClosed fun x => x.probes.length ≤ Config.probeCapacity where
  kept h _ probes _ _ := by rwa [probes]
  enabled h _ probes _ := by rwa [probes]
  ended {x y e queue} h front _ rest _ := by
    rw [front, List.length_cons] at h
    rw [rest]
    omega
  joined code i _ _ room := by
    rw [Lane.withProbe, List.length_append]
    exact room
  emptied probes _ _ := by
    rw [probes]
    exact Nat.zero_le _
  stopped _ := Nat.zero_le _
  disabled h _ := h

theorem probeClosed_matched : ProbeClosed Lane.ProbesMatched where
  kept {x y} h state probes items results := by
    obtain ⟨matched, bound, disabled⟩ := h
    refine ⟨by rw [items, probes, matched], ?_, fun off => ?_⟩
    · have length := congrArg List.length items
      simp only [List.length_map] at length
      rwa [length]
    · obtain ⟨none, empty⟩ := disabled (state ▸ off)
      exact ⟨results none, probes.trans empty⟩
  enabled {x y} h on probes awaited := by
    obtain ⟨matched, bound, -⟩ := h
    exact ⟨by rw [awaited, probes, matched], by rwa [awaited], fun off => absurd off on⟩
  ended {x y e queue} h front state rest awaited := by
    obtain ⟨matched, bound, disabled⟩ := h
    refine ⟨?_, ?_, fun off => ?_⟩
    · rw [awaited, rest, List.map_drop, matched, front]
      rfl
    · rw [awaited, List.length_drop]
      omega
    · obtain ⟨-, empty⟩ := disabled (state ▸ off)
      exact absurd (front.symm.trans empty) (by simp)
  joined {x} code i h works room := by
    have length := h.length
    obtain ⟨matched, -, -⟩ := h
    refine ⟨by simp [Lane.withProbe, matched], ?_, fun off => ?_⟩
    · rw [Lane.withProbe, List.length_append, length]
      exact room
    · rw [show x.state = .disabled from off] at works
      exact absurd works (by decide)
  emptied probes awaited results := ⟨by rw [awaited, probes]; rfl, by rw [awaited]; exact Nat.zero_le _, fun _ => ⟨results, probes⟩⟩
  stopped {x} h := by
    have none : x.stopped.awaited = [] := List.drop_eq_nil_of_le (Nat.le_of_eq h.length)
    exact ⟨by rw [none]; rfl, by rw [none]; exact Nat.zero_le _, fun off => LaneState.noConfusion off⟩
  disabled {x} h off := by
    obtain ⟨-, -, disabled⟩ := h
    obtain ⟨none, empty⟩ := disabled off
    exact ⟨by rw [empty]; rfl, Nat.zero_le _, fun _ => ⟨none, empty⟩⟩

namespace State

theorem stepInvariant_probeQueuesBounded : StepInvariant probeQueuesBounded :=
  probeClosed_length.stepInvariant fun _ => Nat.zero_le _

theorem stepInvariant_awaitedProbesMatched : StepInvariant awaitedProbesMatched :=
  probeClosed_matched.stepInvariant fun _ => ⟨rfl, Nat.zero_le _, fun _ => ⟨rfl, rfl⟩⟩

end State

end Sys2Proof.Machine

/-! # The statement about the bounds, settled -/

namespace Sys2Proof.Proofs

open Sys2Proof Sys2Proof.Machine Sys2Proof.Machine.State

/-- Settles O59: each of the five bounds is kept by each operation to which the commands come. -/
theorem stepsKeepTheBounds : Obligations.StepsKeepTheBounds := by
  unfold Obligations.StepsKeepTheBounds
  intro s t run
  exact ⟨fun h => stepInvariant_hallTimeFits.step_keeps h run, fun h => stepInvariant_probeQueuesBounded.step_keeps h run,
    fun h => stepInvariant_awaitedProbesMatched.step_keeps h run, fun h => stepInvariant_buffersBounded.step_keeps h run,
    fun h => stepInvariant_noticeLineFollowsSet.step_keeps h run⟩

end Sys2Proof.Proofs

/-! # The passage trackers

What a half sees, what a report makes of each passage of a list, and how the new items find their places. -/

namespace Sys2Proof.Machine

/-! ## What a half sees (06 R109, R110) -/

/-- A list without later copies by a key holds one element for each key. -/
theorem mem_map_keepFirst {α β : Type} [DecidableEq β] (key : α → β) (xs : List α) (b : β) :
    b ∈ (keepFirst (fun a c => key a == key c) xs).map key ↔ b ∈ xs.map key := by
  induction xs with
  | nil => rfl
  | cons x xs ih =>
    have rest : b ∈ ((keepFirst (fun a c => key a == key c) xs).filter fun y => !key x == key y).map key ↔
        b ∈ xs.map key ∧ key x ≠ b := by
      rw [← ih]
      simp only [List.mem_map, List.mem_filter, Bool.not_eq_true', beq_eq_false_iff_ne]
      exact ⟨fun ⟨y, ⟨mem, other⟩, same⟩ => ⟨⟨y, mem, same⟩, same ▸ other⟩,
        fun ⟨⟨y, mem, same⟩, other⟩ => ⟨y, ⟨mem, same ▸ other⟩, same⟩⟩
    rw [keepFirst, List.map_cons, List.mem_cons, rest, List.map_cons, List.mem_cons]
    by_cases first : b = key x
    · simp [first]
    · simp [first, Ne.symm first]

theorem nodup_map_keepFirst {α β : Type} [DecidableEq β] (key : α → β) (xs : List α) :
    ((keepFirst (fun a c => key a == key c) xs).map key).Nodup := by
  induction xs with
  | nil => exact List.nodup_nil
  | cons x xs ih =>
    rw [keepFirst, List.map_cons, List.nodup_cons]
    refine ⟨fun mem => ?_, ih.sublist (List.filter_sublist.map key)⟩
    obtain ⟨y, kept, same⟩ := List.mem_map.1 mem
    simp [same] at kept

theorem sees_iff (ns : List Normal) (i : Item) : sees ns i = true ↔ i ∈ ns.map Normal.item := by simp [sees]

theorem ownCode_iff (mark : Nat) (c : TagCode) : ownCode mark c = true ↔ c.mark = mark ∧ c.item ≠ 0 := by simp [ownCode]

namespace State

theorem sightings_distinct (s : State) (half : Half) : ((s.sightings half).map Normal.item).Nodup :=
  nodup_map_keepFirst Normal.item _

/-- A half sees an item when it lists a code of the hall that normalises to it. -/
theorem sees_sightings (s : State) (half : Half) (i : Item) : sees (s.sightings half) i = true ↔
    ∃ c ∈ half.codes, c.mark = s.hall.hallMark ∧ c.item ≠ 0 ∧ (s.normalise c.item).item = i := by
  have codes (c : TagCode) : c ∈ keepFirst (fun a b => a == b) (half.codes.filter (ownCode s.hall.hallMark)) ↔
      c ∈ half.codes.filter (ownCode s.hall.hallMark) := by
    simpa using mem_map_keepFirst id (half.codes.filter (ownCode s.hall.hallMark)) c
  rw [sees_iff]
  refine (mem_map_keepFirst Normal.item _ i).trans ?_
  simp [codes, ownCode_iff, and_assoc]

variable (s : State) (r : CycleReport)

theorem sees_sweep_inner (i : Item) :
    sees (s.sweep r).inner i = true ↔ ∃ x, r.inner = some x ∧ sees (s.sightings x) i = true := by
  unfold sweep
  cases r.inner with
  | none => exact ⟨fun seen => absurd seen Bool.false_ne_true, fun ⟨_, half, _⟩ => absurd half (by simp)⟩
  | some x => simp

theorem sees_sweep_outer (i : Item) :
    sees (s.sweep r).outer i = true ↔ ∃ x, r.outer = some x ∧ sees (s.sightings x) i = true := by
  unfold sweep
  cases r.outer with
  | none => exact ⟨fun seen => absurd seen Bool.false_ne_true, fun ⟨_, half, _⟩ => absurd half (by simp)⟩
  | some x => simp

theorem sweep_innerEnd {x : Half} (inner : r.inner = some x) : (s.sweep r).innerEnd = x.endTime := by simp [sweep, inner]
theorem sweep_outerEnd {x : Half} (outer : r.outer = some x) : (s.sweep r).outerEnd = x.endTime := by simp [sweep, outer]

theorem sweep_lossy : (s.sweep r).lossy = true ↔ ∃ x, (r.inner = some x ∨ r.outer = some x) ∧ x.lossy = true := by
  unfold sweep
  cases r.inner <;> cases r.outer <;> simp [absentHalf]

theorem sweep_distinct : ((s.sweep r).inner.map Normal.item).Nodup ∧ ((s.sweep r).outer.map Normal.item).Nodup :=
  ⟨sightings_distinct .., sightings_distinct ..⟩

end State

/-! ## A passage updated (06 R111, R112) -/

section
variable (count : Nat) (w : Sweep) (p : Passage)

theorem updatePassage_newInner : (updatePassage count w p).newInner = true ↔
    sees w.inner p.item = true ∧ p.innerTally + 1 = count ∧ p.innerConfirmed = none := by
  simp [updatePassage, and_assoc]

theorem updatePassage_newOuter : (updatePassage count w p).newOuter = true ↔
    sees w.outer p.item = true ∧ p.outerTally + 1 = count ∧ p.outerConfirmed = none := by
  simp [updatePassage, and_assoc]

/-- A passage updated: its tallies, its confirmed times, and its miss count. -/
theorem updatePassage_p : (updatePassage count w p).p = { p with
    innerTally := if sees w.inner p.item then min 15 (p.innerTally + 1) else p.innerTally
    outerTally := if sees w.outer p.item then min 15 (p.outerTally + 1) else p.outerTally
    innerConfirmed := if (updatePassage count w p).newInner then some w.innerEnd else p.innerConfirmed
    outerConfirmed := if (updatePassage count w p).newOuter then some w.outerEnd else p.outerConfirmed
    missCount := if sees w.inner p.item || sees w.outer p.item then 0 else if w.lossy then p.missCount
      else min 15 (p.missCount + 1) } := rfl

end

/-! ## Passages at the miss limit (06 R120, R121) -/

theorem removesByMisses_iff (limit : Nat) (policy : OuterOnlyPolicy) (t : Tracked) : removesByMisses limit policy t = true ↔
    limit ≤ t.p.missCount ∧ (t.p.stage = .tracking ∨ t.p.stage = .inner ∨ t.p.stage = .settled ∨ t.p.stage = .entered
      ∨ t.p.stage = .outer ∧ policy = .ignore) := by
  unfold removesByMisses
  rw [Bool.and_eq_true, decide_eq_true_iff]
  refine and_congr_right fun _ => ?_
  cases t.p.stage <;> cases policy <;> simp

theorem judgeOuterOnly_eq (limit : Nat) (policy : OuterOnlyPolicy) (t : Tracked) : judgeOuterOnly limit policy t =
    if limit ≤ t.p.missCount ∧ t.p.stage = .outer ∧ policy = .judge then { t with leaving := true } else t := by
  simp [judgeOuterOnly, and_assoc]

theorem judgeOuterOnly_p (limit : Nat) (policy : OuterOnlyPolicy) (t : Tracked) : (judgeOuterOnly limit policy t).p = t.p := by
  unfold judgeOuterOnly
  split <;> rfl

/-- A SENT passage neither leaves by its misses nor is leaving by them. -/
theorem sent_at_miss_limit {limit : Nat} {policy : OuterOnlyPolicy} {t : Tracked} (sent : t.p.stage = .sent) :
    removesByMisses limit policy t = false ∧ judgeOuterOnly limit policy t = t := by
  constructor
  · rw [← Bool.not_eq_true, removesByMisses_iff]
    simp [sent]
  · rw [judgeOuterOnly_eq, if_neg (by simp [sent])]

/-! ## New items and their places (06 R113, R114) -/

/-- A passage that a new item may evict first: decided, and not made in this report. -/
def Tracked.DecidedOne (t : Tracked) : Prop := t.fresh = false ∧ (t.p.stage = .settled ∨ t.p.stage = .entered)

/-- A passage that a new item may evict where none is decided. -/
def Tracked.Unconfirmed (t : Tracked) : Prop := t.fresh = false ∧ t.p.stage = .tracking

theorem newItems_eq (w : Sweep) (ps : List Passage) : newItems w ps =
    w.inner.filter (fun n => decide (∀ p ∈ ps, p.item ≠ n.item))
      ++ w.outer.filter fun n => decide ((∀ p ∈ ps, p.item ≠ n.item) ∧ ∀ m ∈ w.inner, m.item ≠ n.item) := by
  have absent (n : Normal) : (!ps.any fun p => p.item == n.item) = decide (∀ p ∈ ps, p.item ≠ n.item) := by
    rw [Bool.eq_iff_iff]
    simp
  have unseen (n : Normal) : (!sees w.inner n.item) = decide (∀ m ∈ w.inner, m.item ≠ n.item) := by
    rw [Bool.eq_iff_iff]
    simp [sees]
  unfold newItems
  simp only [absent, unseen, Bool.decide_and]

/-- The new items of a report are distinct, and no passage of the list has one of them. -/
theorem newItems_distinct {w : Sweep} (inner : (w.inner.map Normal.item).Nodup) (outer : (w.outer.map Normal.item).Nodup)
    {ps : List Passage} (distinct : (ps.map Passage.item).Nodup) :
    (ps.map Passage.item ++ (newItems w ps).map Normal.item).Nodup := by
  rw [newItems_eq, List.map_append]
  refine List.Nodup.append distinct (List.Nodup.append (inner.sublist (List.filter_sublist.map _))
    (outer.sublist (List.filter_sublist.map _)) ?_) ?_
  · intro i first second
    simp only [List.mem_map, List.mem_filter, decide_eq_true_eq] at first second
    obtain ⟨n, ⟨seen, -⟩, rfl⟩ := first
    obtain ⟨m, ⟨-, -, unseen⟩, same⟩ := second
    exact unseen n seen same.symm
  · intro i old new
    obtain ⟨p, mem, rfl⟩ := List.mem_map.1 old
    simp only [List.mem_append, List.mem_map, List.mem_filter, decide_eq_true_eq] at new
    rcases new with ⟨n, ⟨-, absent⟩, same⟩ | ⟨n, ⟨-, absent, -⟩, same⟩
    · exact absent p mem same.symm
    · exact absent p mem same.symm

theorem Tracked.decidedOne_iff (t : Tracked) :
    (!t.fresh && (t.p.stage == .settled || t.p.stage == .entered)) = true ↔ t.DecidedOne := by simp [DecidedOne]

theorem Tracked.unconfirmed_iff (t : Tracked) : (!t.fresh && t.p.stage == .tracking) = true ↔ t.Unconfirmed := by
  simp [Unconfirmed]

theorem victim_of_decided {older newer : List Tracked} {v : Tracked} (decided : v.DecidedOne)
    (first : ∀ t ∈ older, ¬ t.DecidedOne) :
    victim (older ++ v :: newer) = some v := by
  unfold victim
  simp only [Option.or_eq_some_iff]
  refine .inl (List.find?_eq_some_iff_append.2 ⟨v.decidedOne_iff.2 decided, older, newer, rfl, fun t mem => ?_⟩)
  rw [Bool.not_eq_true', ← Bool.not_eq_true, t.decidedOne_iff]
  exact first t mem

theorem find_decided_eq_none {ts : List Tracked} (none : ∀ t ∈ ts, ¬ t.DecidedOne) :
    ts.find? (fun t => !t.fresh && (t.p.stage == .settled || t.p.stage == .entered)) = Option.none :=
  List.find?_eq_none.2 fun t mem => by
    rw [t.decidedOne_iff]
    exact none t mem

theorem victim_of_unconfirmed {older newer : List Tracked} {v : Tracked} (none : ∀ t ∈ older ++ v :: newer, ¬ t.DecidedOne)
    (unconfirmed : v.Unconfirmed) (first : ∀ t ∈ older, ¬ t.Unconfirmed) : victim (older ++ v :: newer) = some v := by
  unfold victim
  rw [find_decided_eq_none none, Option.none_or]
  refine List.find?_eq_some_iff_append.2 ⟨v.unconfirmed_iff.2 unconfirmed, older, newer, rfl, fun t mem => ?_⟩
  rw [Bool.not_eq_true', ← Bool.not_eq_true, t.unconfirmed_iff]
  exact first t mem

theorem victim_eq_none {ts : List Tracked} (noneDecided : ∀ t ∈ ts, ¬ t.DecidedOne)
    (noneUnconfirmed : ∀ t ∈ ts, ¬ t.Unconfirmed) :
    victim ts = none := by
  unfold victim
  rw [find_decided_eq_none noneDecided, Option.none_or, List.find?_eq_none]
  intro t mem
  rw [t.unconfirmed_iff]
  exact noneUnconfirmed t mem

/-- The passage evicted is one of the list, and not SENT. -/
theorem victim_spec {ts : List Tracked} {v : Tracked} (found : victim ts = some v) : v ∈ ts ∧ v.p.stage ≠ .sent := by
  unfold victim at found
  rcases Option.or_eq_some_iff.1 found with decided | ⟨-, unconfirmed⟩
  · have passed := List.find?_some decided
    obtain ⟨-, settled | entered⟩ := v.decidedOne_iff.1 passed
    · exact ⟨List.mem_of_find?_eq_some decided, by simp [settled]⟩
    · exact ⟨List.mem_of_find?_eq_some decided, by simp [entered]⟩
  · have passed := List.find?_some unconfirmed
    obtain ⟨-, tracking⟩ := v.unconfirmed_iff.1 passed
    exact ⟨List.mem_of_find?_eq_some unconfirmed, by simp [tracking]⟩

theorem removalReports_singleton (v : Tracked) :
    removalReports [v] = if v.p.stage = .settled then [.removed v.p.item] else [] := by
  by_cases settled : v.p.stage = .settled
  · simp [removalReports, settled]
  · simp [removalReports, settled]

section
variable {count : Nat} {w : Sweep} {work : Working} {n : Normal}

theorem placeNew_of_room (room : work.list.length < 24) :
    placeNew count w work n = { work with list := work.list ++ [newPassage count w n] } := if_pos room

theorem placeNew_of_victim (full : 24 ≤ work.list.length) {v : Tracked} (found : victim work.list = some v) :
    placeNew count w work n = { work with
      list := (work.list.filter fun t => t.p.item != v.p.item) ++ [newPassage count w n]
      messages := work.messages ++ if v.p.stage = .settled then [.removed v.p.item] else [] } := by
  unfold placeNew
  rw [if_neg (show ¬ work.list.length < Config.passageCapacity from Nat.not_lt.2 full), found, ← removalReports_singleton]

theorem placeNew_of_crowd (full : 24 ≤ work.list.length) (none : victim work.list = none) :
    placeNew count w work n = { work with drops := work.drops + 1 } := by
  unfold placeNew
  rw [if_neg (show ¬ work.list.length < Config.passageCapacity from Nat.not_lt.2 full), none]

end

/-! ## The list as its new items are placed -/

/-- A new item joins what is kept of the list, where there is room and every SENT passage is kept, or is dropped. -/
theorem placeNew_list (count : Nat) (w : Sweep) (work : Working) (n : Normal) : (placeNew count w work n).list = work.list
    ∨ ∃ kept : List Tracked, (placeNew count w work n).list = kept ++ [newPassage count w n] ∧ kept.Sublist work.list
      ∧ (work.list.length ≤ 24 → kept.length < 24)
      ∧ ((work.list.map fun t => t.p.item).Nodup → ∀ u ∈ work.list, u.p.stage = .sent → u ∈ kept) := by
  by_cases room : work.list.length < 24
  · rw [placeNew_of_room room]
    exact .inr ⟨_, rfl, .refl _, fun _ => room, fun _ _ mem _ => mem⟩
  · have full := Nat.not_lt.1 room
    cases found : victim work.list with
    | none =>
      rw [placeNew_of_crowd full found]
      exact .inl rfl
    | some v =>
      obtain ⟨mem, stage⟩ := victim_spec found
      rw [placeNew_of_victim full found]
      refine .inr ⟨_, rfl, List.filter_sublist, fun bounded => ?_, fun distinct u held sent => ?_⟩
      · exact Nat.lt_of_lt_of_le (List.length_filter_lt_length_iff_exists.2 ⟨v, mem, by simp⟩) bounded
      · have other : u.p.item ≠ v.p.item := fun same => by
          rw [List.inj_on_of_nodup_map distinct held mem same] at sent
          exact stage sent
        exact List.mem_filter.2 ⟨held, by simpa using other⟩

/-- The items of the list and those still to be placed are distinct. -/
def Placing (work : Working) (ns : List Normal) : Prop :=
  (work.list.map (fun t => t.p.item) ++ ns.map Normal.item).Nodup

theorem Placing.placeNew {count : Nat} {w : Sweep} {work : Working} {n : Normal} {ns : List Normal}
    (placing : Placing work (n :: ns)) :
    Placing (placeNew count w work n) ns := by
  unfold Placing at *
  rcases placeNew_list count w work n with same | ⟨kept, joined, sub, -, -⟩
  · rw [same]
    exact placing.sublist ((List.Sublist.refl _).append (List.sublist_cons_self ..))
  · rw [joined, List.map_append, List.append_assoc]
    exact placing.sublist ((sub.map _).append (.refl _))

variable {count : Nat} {w : Sweep}

/-- The list stays within its size as the new items are placed. -/
theorem foldl_placeNew_length (ns : List Normal) {work : Working} (bounded : work.list.length ≤ 24) :
    (ns.foldl (placeNew count w) work).list.length ≤ 24 := by
  induction ns generalizing work with
  | nil => exact bounded
  | cons n ns ih =>
    refine ih ?_
    rcases placeNew_list count w work n with same | ⟨kept, joined, -, room, -⟩
    · rwa [same]
    · rw [joined, List.length_append]
      exact room bounded

/-- Once all are placed, the items of the list are distinct, and each SENT passage of it stands. -/
theorem Placing.foldl {work : Working} {ns : List Normal} (placing : Placing work ns) :
    ((ns.foldl (Machine.placeNew count w) work).list.map fun t => t.p.item).Nodup
      ∧ ∀ u ∈ work.list, u.p.stage = .sent → u ∈ (ns.foldl (Machine.placeNew count w) work).list := by
  induction ns generalizing work with
  | nil => exact ⟨placing.of_append_left, fun _ mem _ => mem⟩
  | cons n ns ih =>
    obtain ⟨last, remains⟩ := ih (placing.placeNew (count := count) (w := w))
    refine ⟨last, fun u mem sent => remains u ?_ sent⟩
    rcases placeNew_list count w work n with same | ⟨kept, joined, -, -, stands⟩
    · rwa [same]
    · rw [joined]
      exact List.mem_append_left _ (stands placing.of_append_left u mem sent)

/-! ## A whole report (06 R108) -/

/-- The list as the new items find it: updated, and without the passages that leave by their misses. -/
def keptPassages (x : LaneSettings) (w : Sweep) (ps : List Passage) : List Tracked :=
  ((ps.map (updatePassage x.confirmationCount w)).filter fun t => !removesByMisses x.missLimit x.outerOnly t).map
    (judgeOuterOnly x.missLimit x.outerOnly)

theorem keptPassages_items (x : LaneSettings) (w : Sweep) (ps : List Passage) :
    ((keptPassages x w ps).map fun t => t.p.item).Sublist (ps.map Passage.item) := by
  have items (ts : List Tracked) : (ts.map (judgeOuterOnly x.missLimit x.outerOnly)).map (fun t => t.p.item)
      = ts.map fun t => t.p.item := by
    rw [List.map_map]
    exact List.map_congr_left fun t _ => congrArg Passage.item (judgeOuterOnly_p ..)
  have updated : (ps.map (updatePassage x.confirmationCount w)).map (fun t => t.p.item) = ps.map Passage.item := by
    rw [List.map_map]
    rfl
  unfold keptPassages
  rw [items, ← updated]
  exact List.filter_sublist.map _

/-- A SENT passage stays in the list that the new items find. -/
theorem mem_keptPassages_of_sent (x : LaneSettings) (w : Sweep) {ps : List Passage} {p : Passage} (mem : p ∈ ps)
    (sent : p.stage = .sent) : updatePassage x.confirmationCount w p ∈ keptPassages x w ps := by
  have stage : (updatePassage x.confirmationCount w p).p.stage = .sent := sent
  obtain ⟨stays, same⟩ := sent_at_miss_limit (limit := x.missLimit) (policy := x.outerOnly) stage
  exact List.mem_map.2 ⟨_, List.mem_filter.2 ⟨List.mem_map.2 ⟨p, mem, rfl⟩, by simp [stays]⟩, same⟩

theorem workReport_length (x : LaneSettings) (w : Sweep) {ps : List Passage} (bounded : ps.length ≤ 24) :
    (workReport x w ps).list.length ≤ 24 := by
  refine foldl_placeNew_length _ (Nat.le_trans ?_ bounded)
  have shorter := (keptPassages_items x w ps).length_le
  rwa [List.length_map, List.length_map] at shorter

section
variable (x : LaneSettings) {ps : List Passage} (inner : (w.inner.map Normal.item).Nodup) (outer : (w.outer.map Normal.item).Nodup)
  (distinct : (ps.map Passage.item).Nodup)
include inner outer distinct

theorem workReport_distinct : ((workReport x w ps).list.map fun t => t.p.item).Nodup
    ∧ ∀ p ∈ ps, p.stage = .sent → updatePassage x.confirmationCount w p ∈ (workReport x w ps).list := by
  let gone := (ps.map (updatePassage x.confirmationCount w)).filter (removesByMisses x.missLimit x.outerOnly)
  let begun : Working := { list := keptPassages x w ps, messages := removalReports gone, drops := 0 }
  have placing : Placing begun (newItems w ps) :=
    (newItems_distinct inner outer distinct).sublist ((keptPassages_items x w ps).append (.refl _))
  obtain ⟨last, stands⟩ := placing.foldl (count := x.confirmationCount) (w := w)
  exact ⟨last, fun p mem sent => stands _ (mem_keptPassages_of_sent x w mem sent) sent⟩

end

/-! ## Stage decisions (06 R115 to R118) -/

theorem decideStage_single (h : HeadPos) (t : Tracked) : decideStage (.single h) t =
    if (t.p.stage = .tracking ∨ t.p.stage = .inner ∨ t.p.stage = .outer)
        ∧ (h = .inner → t.p.innerConfirmed ≠ none) ∧ (h = .outer → t.p.outerConfirmed ≠ none) then { t with leaving := true }
    else t := by
  cases h with
  | inner => simp [decideStage, Option.isSome_iff_ne_none, or_assoc]
  | outer => simp [decideStage, Option.isSome_iff_ne_none, or_assoc]

/-- A decision leaves a passage as it was, marks it as leaving, or moves it to another stage. -/
theorem decideStage_cases (form : Form) (t : Tracked) : decideStage form t = t ∨ decideStage form t = { t with leaving := true }
    ∨ ∃ stage, decideStage form t = { t with p := { t.p with stage := stage } } := by
  cases form with
  | single h =>
    rw [decideStage_single]
    split
    · exact .inr (.inl rfl)
    · exact .inl rfl
  | paired | alternate =>
    unfold decideStage
    dsimp only
    split
    · exact .inr (.inr ⟨_, rfl⟩)
    · exact .inr (.inr ⟨_, rfl⟩)
    · split
      · exact .inr (.inr ⟨_, rfl⟩)
      · exact .inr (.inl rfl)
    · exact .inr (.inl rfl)
    · exact .inr (.inr ⟨_, rfl⟩)
    · exact .inl rfl

/-- A decision changes nothing but the stage and the mark of leaving. -/
theorem decideStage_frame (form : Form) (t : Tracked) : decideStage form t =
    { t with leaving := (decideStage form t).leaving, p := { t.p with stage := (decideStage form t).p.stage } } := by
  rcases decideStage_cases form t with same | leaves | ⟨stage, moved⟩
  · rw [same]
  · rw [leaves]
  · rw [moved]

theorem sendLeaving_eq (t : Tracked) : sendLeaving t = { t.p with stage := if t.leaving then .sent else t.p.stage } := by
  unfold sendLeaving
  split <;> rfl

theorem sendLeaving_decideStage_item (form : Form) (t : Tracked) : (sendLeaving (decideStage form t)).item = t.p.item := by
  rw [sendLeaving_eq, decideStage_frame]

theorem decideStage_of_decided {form : Form} {t : Tracked}
    (decided : t.p.stage = .sent ∨ t.p.stage = .settled ∨ t.p.stage = .entered) :
    decideStage form t = t := by
  unfold decideStage
  rcases decided with stage | stage | stage
  · rw [stage]
    cases form <;> rfl
  · rw [stage]
    cases form <;> rfl
  · rw [stage]
    cases form <;> rfl

namespace State

/-- The lane whose tracker has worked a report. -/
def tracked (s : State) (l : LaneId) (r : CycleReport) : Lane :=
  let work := workReport (s.lane l).settings (s.sweep r) (s.lane l).passages
  let decided := work.list.map (decideStage r.form)
  { s.lane l with
    passages := decided.map sendLeaving
    toJudge := (s.lane l).toJudge ++ work.messages ++ leavingMessages decided
    counts := { (s.lane l).counts with
      foreignCodes := (s.lane l).counts.foreignCodes + BitVec.ofNat 32 (((r.inner.map (foreignCount s.hall.hallMark)).getD 0)
        + ((r.outer.map (foreignCount s.hall.hallMark)).getD 0))
      entered := (s.lane l).counts.entered + BitVec.ofNat 32 (enteredCount work.list decided)
      crowdDrops := (s.lane l).counts.crowdDrops + BitVec.ofNat 32 work.drops } }

/-- A report writes its lane, and sightings dropped raise CROWD. -/
theorem takeReport_eq (s : State) (l : LaneId) (r : CycleReport) : s.takeReport l r =
    if (workReport (s.lane l).settings (s.sweep r) (s.lane l).passages).drops = 0 then s.setLane l (s.tracked l r)
    else (s.setLane l (s.tracked l r)).raise .crowd := rfl

end State

/-- A passage list within its size and of distinct items (06 R107). -/
def Lane.PassagesSound (x : Lane) : Prop :=
  x.passages.length ≤ Config.passageCapacity ∧ (x.passages.map Passage.item).Nodup

/-- A report leaves a sound passage list sound. -/
theorem State.tracked_sound {s : State} {l : LaneId} (sound : (s.lane l).PassagesSound) (r : CycleReport) :
    (s.tracked l r).PassagesSound := by
  obtain ⟨bounded, distinct⟩ := sound
  obtain ⟨inner, outer⟩ := s.sweep_distinct r
  have items (ts : List Tracked) : ((ts.map (decideStage r.form)).map sendLeaving).map Passage.item = ts.map fun t => t.p.item := by
    rw [List.map_map, List.map_map]
    exact List.map_congr_left fun t _ => sendLeaving_decideStage_item ..
  refine ⟨?_, ?_⟩
  · show ((List.map _ _).map _).length ≤ 24
    rw [List.length_map, List.length_map]
    exact workReport_length _ _ bounded
  · show (((List.map _ _).map _).map Passage.item).Nodup
    rw [items]
    exact (workReport_distinct _ inner outer distinct).1

end Sys2Proof.Machine

/-! # The passage lists, the alarm log and the judgement list through every command

Each command keeps the three lists sound: it comes to writes of a lane, of the log and of the judgement list that do. -/

namespace Sys2Proof.Machine

/-- From one state to another the passage lists, the alarm log and the judgement list stay sound. -/
structure ListsKept (s t : State) : Prop where
  passages : s.passageListsSound → t.passageListsSound
  log : s.alarmLogSound → t.alarmLogSound
  judgements : s.judgementsDistinct → t.judgementsDistinct

theorem Lane.begun_passages (now : Time) (x : Lane) : (x.begun now).passages = x.passages := by rw [begun_frame]

theorem Lane.setHead_passages (x : Lane) (h : HeadPos) (u : HeadUnit) : (x.setHead h u).passages = x.passages := by
  rw [setHead_frame]

theorem Lane.stopped_passages (x : Lane) : x.stopped.passages = x.passages := rfl

/-- Dropping the first record of a kind leaves the others in their order. -/
theorem dropFirst_sublist (test : AlarmRecord → Bool) (rs : List AlarmRecord) : (dropFirst test rs).Sublist rs := by
  induction rs with
  | nil => exact .refl _
  | cons r rs ih =>
    unfold dropFirst
    split
    · exact List.sublist_cons_self ..
    · exact ih.cons_cons r

namespace State

theorem makeLogRoom_sublist (s : State) : s.makeLogRoom.log.records.Sublist s.log.records := by
  unfold makeLogRoom
  split
  · exact .refl _
  · split
    · exact dropFirst_sublist ..
    · exact List.drop_sublist ..

/-- The numbers of the records in the log. -/
def numbers (s : State) : List (BitVec 16) := s.log.records.map AlarmRecord.number

/-- The items of the judgement list. -/
def judged (s : State) : List Item := s.judge.entries.map Judgement.item

end State

namespace ListsKept

open State

variable {s t u : State}

theorem refl (s : State) : ListsKept s s := ⟨id, id, id⟩

theorem trans (h₁ : ListsKept s t) (h₂ : ListsKept t u) : ListsKept s u :=
  ⟨h₂.passages ∘ h₁.passages, h₂.log ∘ h₁.log, h₂.judgements ∘ h₁.judgements⟩

/-- `trans` with the later part first: it says what the earlier part comes to. -/
theorem after (later : ListsKept t u) (earlier : ListsKept s t) : ListsKept s u := earlier.trans later

/-- The passage lists stay, and records and judgements leave or change, but none comes. -/
theorem of_sublists (passages : ∀ m, (t.lane m).passages = (s.lane m).passages) (numbers : t.numbers.Sublist s.numbers)
    (judged : t.judged.Sublist s.judged) : ListsKept s t := by
  refine ⟨fun sound m => ?_, fun ⟨bounded, distinct⟩ => ⟨Nat.le_trans ?_ bounded, distinct.sublist numbers⟩,
    fun distinct => distinct.sublist judged⟩
  · rw [passages]
    exact sound m
  · simpa [State.numbers] using numbers.length_le

/-- What is written is none of the three. -/
theorem of_same (passages : ∀ m, (t.lane m).passages = (s.lane m).passages)
    (records : t.log.records = s.log.records) (entries : t.judge.entries = s.judge.entries) : ListsKept s t :=
  of_sublists passages (by unfold numbers; rw [records]) (by unfold judged; rw [entries])

theorem of_portsOnly (only : PortsOnly s t) : ListsKept s t :=
  of_same (fun m => by rw [only]; rfl) (by rw [only]) (by rw [only])

/-! ## The lanes -/

theorem setLane {l : LaneId} {x : Lane} (own : (s.lane l).PassagesSound → x.PassagesSound) : ListsKept s (s.setLane l x) := by
  refine ⟨fun sound m => ?_, id, id⟩
  rw [lane_setLane]
  split
  · exact own (sound l)
  · exact sound m

theorem setLane_same {l : LaneId} {x : Lane} (same : x.passages = (s.lane l).passages) : ListsKept s (s.setLane l x) :=
  setLane fun sound => by
    unfold Lane.PassagesSound
    rwa [same]

theorem modLane {l : LaneId} {f : Lane → Lane} (same : (f (s.lane l)).passages = (s.lane l).passages) :
    ListsKept s (s.modLane l f) :=
  setLane_same same

theorem modHead (s : State) (l : LaneId) (h : HeadPos) (f : HeadUnit → HeadUnit) : ListsKept s (s.modHead l h f) :=
  modLane (Lane.setHead_passages ..)

theorem modCounts (s : State) (l : LaneId) (f : LaneCounts → LaneCounts) : ListsKept s (s.modCounts l f) := modLane rfl

theorem setFlight (s : State) (l : LaneId) (f : Flight) : ListsKept s (s.setFlight l f) := modLane rfl

theorem setBand (s : State) (g : GroupId) (a : BandArbiter) : ListsKept s (s.setBand g a) := of_same (fun _ => rfl) rfl rfl

theorem raise (s : State) (n : Notice) : ListsKept s (s.raise n) := of_same (fun _ => rfl) rfl rfl

theorem driveLane (s : State) (l : LaneId) : ListsKept s (s.driveLane l) := by
  unfold State.driveLane
  exact modLane rfl

theorem foldl_lanes {f : State → LaneId → State} (act : ∀ t l, ListsKept t (f t l)) (s : State) :
    ListsKept s (allLanes.foldl f s) :=
  foldl_lanes_keeps (motive := ListsKept s) (fun t l h => h.trans (act t l)) allLanes (refl s)

theorem drive (s : State) : ListsKept s s.drive := by
  unfold State.drive
  exact foldl_lanes driveLane s

/-! ## Work on the bands -/

/-- A band granted to a lane, which begins its work. -/
theorem granted (s : State) (g : GroupId) (a : BandArbiter) (l : LaneId) (now : Time) :
    ListsKept s ((s.setBand g a).setLane l (({ s.lane l with ask := false } : Lane).begun now)) :=
  (setBand s g a).trans (setLane_same (Lane.begun_passages ..))

theorem takeGuardEnd (s : State) (g : GroupId) : ListsKept s (s.takeGuardEnd g) := by
  rcases takeGuardEnd_cases s g with ⟨-, free⟩ | ⟨l, -, grant⟩
  · rw [free]
    exact setBand ..
  · rw [grant]
    exact granted ..

theorem release (s : State) (g : GroupId) : ListsKept s (s.release g) := by
  unfold State.release
  dsimp only
  split
  · exact (setBand ..).trans (takeGuardEnd ..)
  · exact setBand ..

theorem releaseIfHeld (s : State) (l : LaneId) : ListsKept s (s.releaseIfHeld l) := by
  unfold State.releaseIfHeld
  split
  · exact release ..
  · exact refl s

theorem askBand (s : State) (l : LaneId) : ListsKept s (s.askBand l) := by
  cases holder : s.holds l with
  | true =>
    rw [askBand_of_holder holder]
    exact refl s
  | false =>
    by_cases free : (s.arbiter (s.groupOf l)).band = .free
    · rw [askBand_of_free free]
      exact granted ..
    · rw [askBand_of_taken holder free]
      exact setLane_same rfl

theorem breakCycle (s : State) (l : LaneId) : ListsKept s (s.modLane l Lane.breakCycle) :=
  modLane (by rw [Lane.breakCycle_eq])

theorem startProbe (s : State) (l : LaneId) : ListsKept s (s.startProbe l) := by
  by_cases queued : (s.lane l).probes = []
  · rw [startProbe_of_idle (.inl queued)]
    exact refl s
  · rw [startProbe_eq queued]
    exact setLane_same (Lane.begun_passages ..)

theorem decideNext (s : State) (l : LaneId) : ListsKept s (s.decideNext l) := by
  by_cases empty : (s.lane l).probes = []
  · obtain ⟨-, gives, stays⟩ := decideNext_eq s l
    by_cases must : s.MustGiveWay l
    · rw [gives empty must]
      exact ((breakCycle s l).trans (release ..)).trans (askBand ..)
    · rw [stays empty must, roundStart_eq, ← Lane.begun_of_empty _ _ empty]
      exact (setBand ..).trans (setLane_same (Lane.begun_passages ..))
  · rw [decideNext_probes empty]
    exact (breakCycle s l).trans (startProbe ..)

theorem probeJoined (s : State) (l : LaneId) : ListsKept s (s.probeJoined l) := by
  unfold State.probeJoined
  split
  · split
    · refine ListsKept.trans (modLane ?_) (startProbe ..)
      rw [Lane.breakCycle_eq]
      rfl
    · exact startProbe ..
    · exact refl s
  · split
    · exact refl s
    · exact askBand ..

/-! ## Rounds and probes end -/

theorem countHalf (s : State) (l : LaneId) (half : Half) : ListsKept s (s.countHalf l half) := by
  rw [countHalf_eq]
  exact setLane_same rfl

/-- A complete cycle is delivered, and the holder decides. -/
theorem delivered (s : State) (l : LaneId) (r : CycleReport) :
    ListsKept s (((s.deliver l r).setFlight l .nothing).decideNext l) :=
  (decideNext ..).after ((setFlight ..).after (modLane rfl))

theorem roundEnded (s : State) (l : LaneId) (half : Half) : ListsKept s (s.roundEnded l half) := by
  unfold State.roundEnded
  dsimp only
  refine (countHalf s l half).trans ?_
  split
  · exact delivered ..
  · exact setFlight ..
  · exact delivered ..
  · exact setFlight ..
  · exact (decideNext ..).after ((setFlight ..).after (modLane rfl))
  · exact delivered ..
  · exact delivered ..
  · exact delivered ..
  · exact refl _
  · exact refl _

theorem endProbe (s : State) (l : LaneId) (o : ProbeOutcome) : ListsKept s (s.endProbe l o) := by
  unfold State.endProbe
  split
  · exact (decideNext ..).after (modLane rfl)
  · exact refl s

theorem probeHeadEnded (s : State) (l : LaneId) (h : HeadPos) (byFault : Bool) : ListsKept s (s.probeHeadEnded l h byFault) := by
  have outer (faulted : Bool) : ListsKept s (s.probeOuter l faulted) := by
    unfold probeOuter
    split
    · exact refl s
    · exact (modHead ..).trans (setFlight ..)
  unfold State.probeHeadEnded
  dsimp only
  split
  · split
    · split
      · exact setFlight ..
      · exact endProbe ..
    · exact outer _
    · exact endProbe ..
    · exact endProbe ..
  · exact refl s
  · exact refl s

/-! ## Head links -/

theorem enterStopped (s : State) (l : LaneId) : ListsKept s (s.enterStopped l) := by
  rw [enterStopped_eq]
  exact ((setLane_same (Lane.stopped_passages _)).trans (raise _ _)).trans (releaseIfHeld _ l)

theorem leaveStarting (s : State) (l : LaneId) : ListsKept s (s.leaveStarting l) := by
  have enters (state : LaneState) : ListsKept s (s.modLane l fun x => { x with state := state }) := modLane rfl
  unfold State.leaveStarting
  dsimp only
  split
  · exact refl s
  · split
    · exact (enters .inService).trans (askBand ..)
    · split
      · exact ((enters .single).trans (raise ..)).trans (askBand ..)
      · exact enterStopped ..

theorem flightFaulted (s : State) (l : LaneId) (h : HeadPos) : ListsKept s (s.flightFaulted l h) := by
  unfold State.flightFaulted
  split
  · exact roundEnded ..
  · exact probeHeadEnded ..
  · exact refl s

theorem headFaulted (s : State) (l : LaneId) (h : HeadPos) : ListsKept s (s.headFaulted l h) := by
  have stops : ListsKept s ((s.countFaultedRound l h).enterStopped l) := by
    obtain ⟨n, counted⟩ := countFaultedRound_eq s l h
    rw [counted]
    have written : ListsKept s (s.setLane l { s.lane l with counts := { (s.lane l).counts with lossyRounds := n } }) :=
      setLane_same rfl
    exact written.trans (enterStopped _ l)
  have single : ListsKept s (s.modLane l fun x => { x with state := .single }) := modLane rfl
  unfold State.headFaulted
  split
  · exact leaveStarting ..
  · exact (single.trans (raise ..)).trans (flightFaulted ..)
  · exact stops
  · exact stops
  · exact refl s
  · exact refl s

theorem attemptFailed (s : State) (l : LaneId) (h : HeadPos) : ListsKept s (s.attemptFailed l h) := by
  unfold State.attemptFailed
  dsimp only
  split
  · exact ((modHead ..).trans (modHead ..)).trans (headFaulted ..)
  · exact (modHead ..).trans (modHead ..)

theorem takeIdent (s : State) (l : LaneId) (h position : HeadPos) : ListsKept s (s.takeIdent l h position) := by
  unfold State.takeIdent
  split
  · split <;> exact (modHead ..).trans (leaveStarting ..)
  · exact modHead ..

theorem takeRound (s : State) (l : LaneId) (h : HeadPos) (q : BitVec 8) (overflow : Bool) (codes : List TagCode) :
    ListsKept s (s.takeRound l h q overflow codes) := by
  unfold State.takeRound
  split
  · exact (modHead ..).trans (roundEnded ..)
  · exact modHead ..

theorem takeProbe (s : State) (l : LaneId) (h : HeadPos) (q : BitVec 8) (found : Bool) : ListsKept s (s.takeProbe l h q found) := by
  unfold State.takeProbe
  dsimp only
  split
  · split
    · exact ((modHead ..).trans (modHead ..)).trans (endProbe ..)
    · exact (modHead ..).trans (probeHeadEnded ..)
  · exact modHead ..

theorem discardMessage (s : State) (l : LaneId) (h : HeadPos) : ListsKept s (s.discardMessage l h) := by
  unfold State.discardMessage
  dsimp only
  split
  · exact (modHead ..).trans (attemptFailed ..)
  · exact modHead ..

theorem sendAbort (s : State) (l : LaneId) (h : HeadPos) : ListsKept s (s.sendAbort l h) := by
  unfold State.sendAbort
  dsimp only
  split
  · split
    · exact (modHead ..).trans (startProbe ..)
    · exact modHead ..
  · exact refl s

/-! ## The tracker -/

theorem takeReport (s : State) (l : LaneId) (r : CycleReport) : ListsKept s (s.takeReport l r) := by
  have written : ListsKept s (s.setLane l (s.tracked l r)) := setLane fun sound => tracked_sound sound r
  rw [takeReport_eq]
  split
  · exact written
  · exact written.trans (raise ..)

/-- A verdict changes no item of the list. -/
theorem settled (s : State) (l : LaneId) (i : Item) (v : Verdict) (rest : List (Item × Verdict)) :
    ListsKept s (s.modLane l fun x => { x with verdicts := rest, passages := x.passages.map (settlePassage v i) }) := by
  have items (ps : List Passage) : (ps.map (settlePassage v i)).map Passage.item = ps.map Passage.item := by
    rw [List.map_map]
    refine List.map_congr_left fun p _ => ?_
    show (settlePassage v i p).item = p.item
    unfold settlePassage
    split <;> rfl
  refine setLane fun ⟨bounded, distinct⟩ => ⟨?_, ?_⟩
  · show (List.map _ _).length ≤ _
    rwa [List.length_map]
  · show (List.map Passage.item (List.map _ _)).Nodup
    rwa [items]

/-! ## The alarm log -/

/-- Records rewritten keep their numbers, and the log its size. -/
theorem setRecords {rs : List AlarmRecord} (numbers : (rs.map AlarmRecord.number).Sublist s.numbers) :
    ListsKept s (s.setRecords rs) :=
  of_sublists (fun _ => rfl) numbers (.refl _)

/-- Records marked where they stand keep their numbers. -/
theorem markRecords (s : State) (test : AlarmRecord → Bool) {mark : AlarmRecord → AlarmRecord}
    (keeps : ∀ r, (mark r).number = r.number ) :
    ListsKept s (s.setRecords (s.log.records.map fun r => if test r then mark r else r)) := by
  have same : (s.log.records.map fun r => if test r then mark r else r).map AlarmRecord.number = s.numbers := by
    rw [List.map_map]
    refine List.map_congr_left fun r _ => ?_
    show (if test r then mark r else r).number = r.number
    split
    · exact keeps r
    · rfl
  exact setRecords (by rw [same])

theorem raiseAlarm (s : State) (a : Raising) : ListsKept s (s.raiseAlarm a) := by
  refine ⟨fun sound m => ?_, fun ⟨bounded, distinct⟩ => ?_, fun distinct => ?_⟩
  · rw [raiseAlarm_lane]
    exact sound m
  · obtain ⟨kept, log, -, -, -, size, -⟩ := makeLogRoom_spec s
    have room : s.makeLogRoom.log.records.length < 64 := by
      rw [log]
      exact size bounded
    obtain ⟨free, -⟩ := freeNumber_free s.makeLogRoom.log.counter room (by decide)
    refine ⟨?_, ?_⟩
    · show (s.makeLogRoom.log.records ++ [_]).length ≤ 64
      rw [List.length_append]
      exact room
    · show (List.map AlarmRecord.number (s.makeLogRoom.log.records ++ [_])).Nodup
      rw [List.map_append]
      refine (distinct.sublist ((makeLogRoom_sublist s).map _)).append (List.nodup_singleton _) ?_
      rw [List.map_singleton, List.disjoint_singleton]
      intro held
      obtain ⟨r, mem, same⟩ := List.mem_map.1 held
      exact free r mem same
  · unfold judgementsDistinct
    rwa [raiseAlarm_judge]

/-! ## The judgement unit -/

/-- What leaves the lanes, the records and the judgements alone. -/
theorem of_aside (aside : AsideOnly s t) (records : t.log.records = s.log.records) (entries : t.judge.entries = s.judge.entries) :
    ListsKept s t := of_same (fun m => congrArg (fun lanes => Lane.passages (lanes[m])) aside.lanes) records entries

theorem offerJudge (s : State) : ListsKept s s.offerJudge := by
  have log : s.offerJudge.log = s.log := by rw [leavingOnly_offerJudge]
  exact of_aside (asideOnly_offerJudge s) (by rw [log]) (by rw [offerJudge_judge])

theorem modJudgement (s : State) (i : Item) {f : Judgement → Judgement}
    (keeps : ∀ j, (f j).item = j.item ) :
    ListsKept s (s.modJudgement i f) := by
  have same : (s.modJudgement i f).judged = s.judged := by
    show (s.judge.entries.map _).map _ = s.judge.entries.map _
    rw [List.map_map]
    refine List.map_congr_left fun j _ => ?_
    show (if j.item == i then f j else j).item = j.item
    split
    · exact keeps j
    · rfl
  exact of_sublists (fun _ => rfl) (.refl _) (by rw [same])

/-- A judgement is added for an item of which the list has none. -/
theorem addJudgement {j : Judgement} (new : s.findJudgement j.item = none) : ListsKept s (s.addJudgement j) := by
  refine ⟨id, id, fun distinct => ?_⟩
  show (List.map Judgement.item (s.judge.entries ++ [j])).Nodup
  rw [List.map_append]
  refine List.Nodup.append distinct (List.nodup_singleton _) ?_
  rw [List.map_singleton, List.disjoint_singleton]
  intro held
  obtain ⟨e, mem, same⟩ := List.mem_map.1 held
  exact List.find?_eq_none.1 new e mem (beq_iff_eq.2 same)

theorem joinAsking (s : State) (i : Item) : ListsKept s (s.joinAsking i) := by
  have joined : ListsKept s { s with judge := { s.judge with asking := s.judge.asking ++ [i] } } := of_same (fun _ => rfl) rfl rfl
  exact joined.trans (offerJudge _)

theorem askAgain (s : State) (i : Item) : ListsKept s (s.askAgain i) :=
  (joinAsking ..).after (modJudgement s i fun _ => rfl)

theorem holdPending (s : State) (i : Item) : ListsKept s (s.holdPending i) := modJudgement s i fun _ => rfl

theorem removeJudgements (s : State) (test : Judgement → Bool) : ListsKept s (s.removeJudgements test) := by
  have log : (s.removeJudgements test).log = s.log := by rw [leavingOnly_removeJudgements]
  have fewer : (s.removeJudgements test).judged.Sublist s.judged := by
    unfold judged
    rw [removeJudgements_entries]
    exact List.filter_sublist.map _
  refine of_sublists (fun m => by rw [removeJudgements_lane]) ?_ fewer
  unfold numbers
  rw [log]

theorem giveVerdict (s : State) (l : LaneId) (i : Item) (v : Verdict) (f : LaneCounts → LaneCounts) :
    ListsKept s ((s.returnVerdict l i v).modCounts l f) := by
  have returned : ListsKept s (s.returnVerdict l i v) := modLane rfl
  exact returned.trans (modCounts ..)

theorem giveShadow (s : State) (l : LaneId) (i : Item) : ListsKept s (s.giveShadow l i) := giveVerdict ..

theorem givePass (s : State) (j : Judgement) : ListsKept s (s.givePass j) := by
  unfold State.givePass
  exact (giveVerdict ..).after (modJudgement s _ fun _ => rfl)

theorem giveStray (s : State) (j : Judgement) : ListsKept s (s.giveStray j) := by
  unfold State.giveStray
  exact (giveVerdict ..).after (modJudgement s _ fun _ => rfl)

theorem giveAlarm (s : State) (j : Judgement) (unverified : Bool) : ListsKept s (s.giveAlarm j unverified) := by
  unfold State.giveAlarm
  exact (giveVerdict ..).after ((raiseAlarm ..).trans (modJudgement _ _ fun _ => rfl))

theorem verify (s : State) (i : Item) : ListsKept s (s.verify i) := by
  cases found : s.findJudgement i with
  | none =>
    unfold State.verify
    rw [found]
    exact refl s
  | some j =>
    by_cases accepts : (s.lane j.owner).settings.verify = true ∧ s.acceptsProbe j.owner = true
    · have awaits (t : State) (same : t.lane j.owner = s.lane j.owner) : ListsKept t (t.setLane j.owner (s.awaitingLane j)) :=
        setLane_same (by rw [same]; rfl)
      have verifying : ListsKept s (s.modJudgement i fun e => { e with stage := .verifying }) := modJudgement s i fun _ => rfl
      rw [verify_of_accepts found accepts.1 accepts.2]
      exact (verifying.trans (awaits _ rfl)).trans (probeJoined ..)
    · rw [verify_of_refused found accepts]
      exact giveAlarm ..

theorem ignoreProbe (s : State) (l : LaneId) (i : Item) : ListsKept s (s.ignoreProbe l i) := modLane rfl

theorem handOver (s : State) (l : LaneId) (raw : Option Item) (j : Judgement) : ListsKept s (s.handOver l raw j) := by
  have shadowed : ListsKept s ((s.modJudgement j.item fun e => { e with owner := l, raw := raw }).giveShadow j.owner j.item) :=
    (giveShadow ..).after (modJudgement s _ fun _ => rfl)
  unfold State.handOver
  dsimp only
  split
  · exact shadowed.trans (of_same (fun _ => rfl) rfl rfl)
  · exact (shadowed.trans (ignoreProbe ..)).trans (verify ..)
  all_goals exact shadowed

theorem takePassage (s : State) (l : LaneId) (i : Item) (raw : Option Item) (cls : ItemClass) :
    ListsKept s (s.takePassage l i raw cls) := by
  unfold State.takePassage
  split
  · split
    · exact handOver ..
    · exact giveShadow ..
  next new =>
    have added (j : Judgement) (item : j.item = i) : ListsKept s (s.addJudgement j) := addJudgement (by rwa [item])
    split
    · exact (added _ rfl).trans (giveVerdict ..)
    · exact (added _ rfl).trans (giveVerdict ..)
    · exact (added _ rfl).trans (verify ..)
    all_goals exact (added _ rfl).trans (joinAsking ..)

theorem actOnAnswer (s : State) (i : Item) (a : JudgeAnswer) : ListsKept s (s.actOnAnswer i a) := by
  unfold State.actOnAnswer
  dsimp only
  split
  · exact refl s
  · split
    · exact givePass ..
    · exact modJudgement s i fun _ => rfl
    · split
      · exact (verify ..).after (modJudgement s i fun _ => rfl)
      · exact modJudgement s i fun _ => rfl
    · exact (verify ..).after (modJudgement s i fun _ => rfl)

theorem takeAnswer (s : State) (i : Item) (a : JudgeAnswer) : ListsKept s (s.takeAnswer i a) := by
  have noted (asking : List Item) : ListsKept s { s with judge := { s.judge with answer := none, asking := asking } } :=
    of_same (fun _ => rfl) rfl rfl
  unfold State.takeAnswer
  dsimp only
  split
  · exact ((noted _).trans (actOnAnswer ..)).trans (offerJudge _)
  · exact (noted s.judge.asking).trans (offerJudge _)

theorem takeNotice (s : State) (i : Item) (k : ChangeKind) : ListsKept s (s.takeNotice i k) := by
  unfold State.takeNotice
  split
  · exact refl s
  · split
    · exact refl s
    · split
      · exact askAgain ..
      · exact askAgain ..
      · exact holdPending ..
      · exact verify ..
      · exact (ignoreProbe ..).trans (askAgain ..)
      · exact (ignoreProbe ..).trans (holdPending ..)
      all_goals exact refl s

theorem actOnProbe (s : State) (i : Item) (o : ProbeOutcome) : ListsKept s (s.actOnProbe i o) := by
  unfold State.actOnProbe
  split
  · exact refl s
  · split
    · exact giveAlarm ..
    · exact giveAlarm ..
    · exact giveStray ..

theorem takeProbeResult (s : State) (l : LaneId) : ListsKept s (s.takeProbeResult l) := by
  unfold State.takeProbeResult
  dsimp only
  split
  · exact refl s
  next r results _ =>
    have taken : ListsKept s (s.modLane l fun x => { x with results := results }) := modLane rfl
    split
    · exact taken.trans (actOnProbe ..)
    · exact taken

/-! ## Lanes that start, leave service and restart -/

theorem startLane (s : State) (l : LaneId) : ListsKept s (s.startLane l) := by
  rw [startLane_eq]
  exact setLane_same rfl

/-- The sweeper forgets the passages of the lane. -/
theorem sweeperLeaves (s : State) (l : LaneId) : ListsKept s (s.sweeperLeaves l) := by
  have swept : ListsKept s (s.setLane l (s.lane l).swept) := setLane fun _ => ⟨Nat.zero_le _, List.nodup_nil⟩
  exact swept.trans (releaseIfHeld _ l)

theorem leaveService (s : State) (l : LaneId) : ListsKept s (s.leaveService l) := by
  unfold State.leaveService judgementsLeave
  exact (sweeperLeaves s l).trans ((removeJudgements ..).after (modLane rfl))

theorem restartLane (s : State) (l : LaneId) : ListsKept s (s.restartLane l) := by
  unfold State.restartLane
  split
  · exact startLane ..
  · exact (leaveService ..).trans (startLane ..)

theorem disableLane (s : State) (l : LaneId) : ListsKept s (s.disableLane l) := by
  unfold State.disableLane
  split
  · exact refl s
  · exact (modLane rfl).after (leaveService ..)

theorem restartIfEnabled (s : State) (l : LaneId) : ListsKept s (s.restartIfEnabled l) := by
  by_cases disabled : (s.lane l).state = .disabled
  · rw [restartIfEnabled_of_disabled disabled]
    exact refl s
  · rw [restartIfEnabled_of_enabled disabled]
    exact restartLane ..

theorem modLanes (s : State) {f : Lane → Lane} (same : ∀ x, (f x).passages = x.passages) :
    ListsKept s (s.modLanes f) := by
  unfold State.modLanes
  exact foldl_lanes (fun _ _ => modLane (same _)) s

theorem restartLanes (s : State) : ListsKept s s.restartLanes := by
  rw [restartLanes_eq]
  exact (foldl_lanes restartIfEnabled _).after (modLanes s fun _ => rfl)

/-- The judgement unit forgets its judgements. -/
theorem restartJudgement (s : State) : ListsKept s s.restartJudgement := by
  have log : s.restartJudgement.log = s.log := by rw [restartJudgement_frame]
  have entries : s.restartJudgement.judge.entries = [] := by rw [restartJudgement_frame]
  refine of_sublists (fun m => by rw [lane_restartJudgement]) ?_ ?_
  · unfold numbers
    rw [log]
  · unfold judged
    rw [entries]
    exact List.nil_sublist _

theorem serveAckLane (s : State) (p : PortId) : ListsKept s (s.serveAckLane p) := by
  refine serve_keeps p (refl s) fun src kind r t _ answer => ?_
  split at answer
  · cases answer
    unfold laneRequest
    split
    · exact of_portsOnly (portsOnly_replyOn ..)
    · split
      · exact (drive _).after ((of_portsOnly (portsOnly_replyOn ..)).after (markRecords s _ fun _ => rfl))
      · exact of_portsOnly (portsOnly_replyOn ..)
  · cases answer

theorem serveRestartLane (s : State) (p : PortId) : ListsKept s (s.serveRestartLane p) := by
  refine serve_keeps p (refl s) fun src kind r t _ answer => ?_
  split at answer
  · cases answer
    unfold laneRequest
    split
    · exact of_portsOnly (portsOnly_replyOn ..)
    · split
      · exact ((restartLane s _).trans (of_portsOnly (portsOnly_replyOn ..))).trans (drive _)
      · exact of_portsOnly (portsOnly_replyOn ..)
  · cases answer

/-! ## Claims -/

theorem settleRecord (s : State) (n : BitVec 16) : ListsKept s (s.settleRecord n) :=
  markRecords s (fun r => r.number == n) fun _ => rfl

theorem makeRoom (made : s.makeRoom = some t) : ListsKept s t := by
  rcases makeRoom_cases s with ⟨-, room⟩ | ⟨-, v, -, room⟩ | ⟨-, -, room⟩
  · obtain rfl := Option.some.inj (room.symm.trans made)
    exact refl s
  · obtain rfl := Option.some.inj (room.symm.trans made)
    exact of_same (fun _ => rfl) rfl rfl
  · exact absurd (room.symm.trans made) (by simp)

theorem create (s : State) (c : Code) {add : State → State} (adds : ∀ t, ListsKept t (add t)) :
    ListsKept s (s.create c add).1 := by
  unfold State.create
  split
  next t made => exact (makeRoom made).trans (adds t)
  · exact raise ..

theorem settleAbsent (s : State) (i : Item) (src : Source) (o : ClaimOptions) (r : AlarmRecord) :
    ListsKept s (s.settleAbsent i src o r).1 := by
  have put (t : State) (e : Entry) : ListsKept t (t.putEntry e) := of_same (fun _ => rfl) rfl rfl
  unfold State.settleAbsent
  split
  · exact settleRecord ..
  · exact create s _ fun t => (put t _).trans (settleRecord ..)

theorem settlePending (s : State) (e : Entry) (a : Option Nat) (r : AlarmRecord) : ListsKept s (s.settlePending e a r) := by
  unfold State.settlePending
  refine ListsKept.trans ?_ (settleRecord _ r.number)
  split <;> exact of_same (fun _ => rfl) rfl rfl

theorem holdClaim (s : State) (i : Item) (src : Source) (o : ClaimOptions) : ListsKept s (s.holdClaim i src o).1 := by
  unfold State.holdClaim
  split
  · split
    · exact refl s
    · exact create s _ fun _ => of_same (fun _ => rfl) rfl rfl
  · split
    · split
      · exact of_same (fun _ => rfl) rfl rfl
      · exact refl s
    · exact refl s
    · exact refl s

theorem issueClaim (s : State) (i : Item) (src : Source) (o : ClaimOptions) : ListsKept s (s.issueClaim i src o).1 := by
  unfold State.issueClaim
  split
  · split
    · exact settleAbsent ..
    · exact create s _ fun _ => of_same (fun _ => rfl) rfl rfl
  · split
    · split
      · split
        · exact settlePending ..
        · exact of_same (fun _ => rfl) rfl rfl
      · exact refl s
    · exact of_same (fun _ => rfl) rfl rfl
    · exact of_same (fun _ => rfl) rfl rfl

theorem confirmClaim (s : State) (i : Item) (src : Source) (o : ClaimOptions) : ListsKept s (s.confirmClaim i src o).1 := by
  unfold State.confirmClaim
  split
  · split
    · exact settleAbsent ..
    · exact refl s
  · split
    · split
      · split
        · exact settlePending ..
        · exact of_same (fun _ => rfl) rfl rfl
      · exact refl s
    · exact refl s
    · exact refl s

/-- The log is still for a claim that settles no record. -/
theorem of_effect (effect : EffectOnly s t) (log : t.log = s.log) : ListsKept s t :=
  of_same (fun m => by rw [effect]; rfl) (by rw [log]) (by rw [effect])

theorem cancelClaim (s : State) (i : Item) (src : Source) : ListsKept s (s.cancelClaim i src).1 := by
  refine of_effect (effectOnly_cancelClaim s i src) ?_
  unfold State.cancelClaim
  split
  · rfl
  · split
    · split <;> rfl
    · rfl
    · rfl

theorem dischargeClaim (s : State) (i : Item) : ListsKept s (s.dischargeClaim i).1 := by
  refine of_effect (effectOnly_dischargeClaim s i) ?_
  unfold State.dischargeClaim
  split
  · rfl
  · split <;> rfl

theorem loadClaim (s : State) (i : Item) (o : ClaimOptions) : ListsKept s (s.loadClaim i o).1 := by
  unfold State.loadClaim
  split
  · exact create s _ fun _ => of_same (fun _ => rfl) rfl rfl
  · split
    · exact refl s
    all_goals exact of_same (fun _ => rfl) rfl rfl

theorem itemClaim (s : State) (k : ItemKind) (i : Item) (src : Source) (o : ClaimOptions) :
    ListsKept s (s.itemClaim k i src o).1 := by
  cases k with
  | hold => exact holdClaim ..
  | issue => exact issueClaim ..
  | confirm => exact confirmClaim ..
  | cancel => exact cancelClaim ..
  | discharge => exact dischargeClaim ..
  | query => exact refl s
  | load => exact loadClaim ..

theorem takeItemClaim (s : State) (k : ItemKind) : ListsKept s (s.takeItemClaim k) := by
  unfold State.takeItemClaim
  split
  next p k' i src o _ =>
    split
    · have claimed := (of_portsOnly (portsOnly_takeFrom s p)).trans (itemClaim (s.takeFrom p) k i src o)
      dsimp only
      split
      · exact claimed.trans (of_portsOnly (portsOnly_workItems ..))
      · exact claimed
    · exact refl s
  · exact refl s

theorem batchClaim (s : State) (k : BatchKind) (requester : Source) (e : Entry) : ListsKept s (s.batchClaim k requester e).1 := by
  unfold State.batchClaim
  split
  · split
    · exact of_same (fun _ => rfl) rfl rfl
    · exact refl s
  · exact of_same (fun _ => rfl) rfl rfl

theorem takeBatchClaim (s : State) (k : BatchKind) : ListsKept s (s.takeBatchClaim k) := by
  unfold State.takeBatchClaim
  split
  next p k' requester sel b cursor _ =>
    split
    · have taken := of_portsOnly (portsOnly_takeFrom s p)
      dsimp only
      split
      · split
        · exact taken.trans (of_portsOnly (portsOnly_replyOn ..))
        · exact taken
      next e _ =>
        have claimed := taken.trans (batchClaim (s.takeFrom p) k requester e)
        split
        · exact claimed.trans (of_portsOnly (portsOnly_continueBatch ..))
        · exact claimed
    · exact refl s
  · exact refl s

theorem takeWalkClaim (s : State) : ListsKept s s.takeWalkClaim := by
  unfold State.takeWalkClaim
  split
  · exact of_portsOnly ((portsOnly_takeFrom ..).trans (portsOnly_replyOn ..))
  · exact refl s

theorem clearTableClaim (s : State) : ListsKept s s.clearTableClaim.1 := by
  unfold State.clearTableClaim
  split
  · exact of_same (fun _ => rfl) rfl rfl
  · exact refl s

theorem takeClearTableClaim (s : State) : ListsKept s s.takeClearTableClaim := by
  unfold State.takeClearTableClaim
  split
  · exact ((of_portsOnly (portsOnly_takeFrom ..)).trans (clearTableClaim _)).trans (of_portsOnly (portsOnly_replyOn ..))
  · exact refl s

theorem judgeEffect (s : State) (i : Item) (l : LaneId) : ListsKept s (s.judgeEffect i l) := by
  unfold State.judgeEffect
  split
  · rw [departEntry_eq]
    split <;> exact of_same (fun _ => rfl) rfl rfl
  · exact refl s

theorem takeJudgeClaim (s : State) : ListsKept s s.takeJudgeClaim := by
  unfold State.takeJudgeClaim
  split
  next i l _ _ =>
    refine ListsKept.trans (t := (s.setPort (s.port.served .judge)).judgeEffect i l) ?_ (of_same (fun _ => rfl) rfl rfl)
    exact (of_portsOnly (portsOnly_setPort ..)).trans (judgeEffect ..)
  · exact refl s

theorem offerExpiry (s : State) : ListsKept s s.offerExpiry := by
  unfold State.offerExpiry
  split
  · exact of_same (fun _ => rfl) rfl rfl
  · exact refl s

theorem expiryEffect (s : State) (i : Item) : ListsKept s (s.expiryEffect i) := by
  unfold State.expiryEffect
  split
  · split
    · unfold expireEntry
      dsimp only
      split <;> exact of_same (fun _ => rfl) rfl rfl
    · exact refl s
  · exact refl s

theorem takeExpiryClaim (s : State) : ListsKept s s.takeExpiryClaim := by
  unfold State.takeExpiryClaim
  split
  · exact ((of_portsOnly (portsOnly_setPort ..)).trans (expiryEffect ..)).trans (offerExpiry _)
  · exact refl s

/-! ## Requests -/

theorem linkReply (s : State) (kind : Byte) (bytes : List Byte) : ListsKept s (s.linkReply kind bytes) :=
  of_same (fun _ => rfl) rfl rfl

/-- The work of a host's command that ends with its reply. -/
theorem of_linkReply {u : State} {kind : Byte} {bytes : List Byte} (answer : some (t.linkReply kind bytes) = some u)
    (kept : ListsKept s t) : ListsKept s u := by
  obtain rfl := Option.some.inj answer
  exact kept.trans (linkReply ..)

theorem withLane (s : State) (kind : Byte) (lane : Nat) {act : LaneId → State} (acts : ∀ l, ListsKept s (act l)) :
    ListsKept s (s.withLane kind lane act) := by
  unfold State.withLane
  split
  · exact acts _
  · exact linkReply ..

theorem setStanding (s : State) (d : DeskId) (r : Option Standing) : ListsKept s (s.setStanding d r) :=
  of_same (fun _ => rfl) rfl rfl

theorem serveStanding (s : State) : ListsKept s s.serveStanding := by
  refine serve_keeps .desk (refl s) fun src kind r t _ answer => ?_
  split at answer
  next d i _ =>
    have kept : ListsKept s (s.standingRequest d i).1 := by
      unfold standingRequest
      dsimp only
      split
      · exact refl s
      · split
        · exact setStanding ..
        · exact refl s
    generalize s.standingRequest d i = result at answer kept
    cases answer
    exact kept.trans (of_portsOnly (portsOnly_replyOn ..))
  · cases answer

theorem serveEndStanding (s : State) : ListsKept s s.serveEndStanding := by
  refine serve_keeps .desk (refl s) fun src kind r t _ answer => ?_
  split at answer
  · cases answer
    exact (setStanding s _ none).trans (of_portsOnly (portsOnly_replyOn ..))
  · cases answer

theorem serveBad (s : State) (p : PortId) : ListsKept s (s.serveBad p) := by
  refine serve_keeps p (refl s) fun src kind r t _ answer => ?_
  split at answer
  · cases answer
    exact of_portsOnly (portsOnly_replyOn ..)
  · cases answer

theorem clearCounters (s : State) : ListsKept s s.clearCounters := by
  unfold State.clearCounters
  have lanes : ListsKept s (allLanes.foldl (fun s l => s.modLane l clearLane) s) := 
    foldl_lanes (fun _ _ => modLane rfl) s
  dsimp only
  generalize allLanes.foldl (fun s l => s.modLane l clearLane) s = t at lanes ⊢
  exact lanes.trans (of_same (fun _ => rfl) rfl rfl)

theorem carryOutDesk (s : State) : ListsKept s s.carryOutDesk := by
  unfold State.carryOutDesk
  exact (((serveStanding s).trans (serveEndStanding _)).trans (serveAckLane ..)).trans (serveRestartLane ..)

theorem beforeRestarts (s : State) : ListsKept s s.beforeRestarts := by
  have ended : ListsKept s { s.carryOutDesk with standing := Vector.replicate 15 none } :=
    (carryOutDesk s).trans (of_same (fun _ => rfl) rfl rfl)
  unfold State.beforeRestarts
  exact ended.trans (modLanes _ fun _ => rfl)

theorem silenceRecords (s : State) : ListsKept s s.silenceRecords :=
  markRecords s (fun r => r.state == .opened && decide (s.hallTime < r.soundingEnd)) fun _ => rfl

theorem softRestart (s : State) : ListsKept s s.softRestart := by
  have restarted : ListsKept s (allLanes.foldl State.restartIfEnabled s.beforeRestarts) :=
    (beforeRestarts s).trans (foldl_lanes restartIfEnabled _)
  have desk (t : State) : ListsKept t t.restartDesk := of_same (fun _ => rfl) rfl rfl
  rw [softRestart_eq]
  exact ((restarted.trans (restartJudgement _)).trans (silenceRecords _)).trans (desk _)

end ListsKept

/-! # Every command keeps the lists sound -/

namespace ListsKept

open State

variable (s : State)

theorem keeps_of_portsOnly {c : Instr} {t : State} (answers : exec c s = .next t) (only : PortsOnly s t) :
    Keeps (ListsKept s) c s :=
  ⟨t, answers, of_portsOnly only⟩

/-! ## The commands of the host -/

theorem keeps_setHall : Keeps (ListsKept s) .setHall s := by
  refine keeps_serveLink (refl s) rfl fun _ _ _ answer => ?_
  split at answer
  · split at answer
    · exact of_linkReply answer (of_same (fun _ => rfl) rfl rfl)
    · exact of_linkReply answer (refl s)
  · cases answer

theorem keeps_setWindow : Keeps (ListsKept s) .setWindow s := by
  refine keeps_serveLink (refl s) rfl fun _ _ _ answer => ?_
  split at answer
  · split at answer
    · exact of_linkReply answer (of_same (fun _ => rfl) rfl rfl)
    · exact of_linkReply answer (refl s)
  · cases answer

theorem keeps_setRights : Keeps (ListsKept s) .setRights s := by
  refine keeps_serveLink (refl s) rfl fun _ _ _ answer => ?_
  split at answer
  · split at answer
    · exact of_linkReply answer (of_same (fun _ => rfl) rfl rfl)
    · exact of_linkReply answer (refl s)
  · cases answer

theorem keeps_setLane : Keeps (ListsKept s) .setLane s := by
  refine keeps_serveLink (refl s) rfl fun _ _ _ answer => ?_
  split at answer
  · cases answer
    refine withLane s _ _ fun l => ?_
    split
    · exact linkReply ..
    · split
      · exact (linkReply ..).after (modLane rfl)
      · exact linkReply ..
  · cases answer

theorem keeps_enableLane : Keeps (ListsKept s) .enableLane s := by
  refine keeps_serveLink (refl s) rfl fun _ _ _ answer => ?_
  split at answer
  · cases answer
    refine withLane s _ _ fun l => ?_
    split
    · exact ((startLane s l).trans (linkReply ..)).trans (drive _)
    · exact linkReply ..
  · cases answer

theorem keeps_disableLane : Keeps (ListsKept s) .disableLane s := by
  refine keeps_serveLink (refl s) rfl fun _ _ _ answer => ?_
  split at answer
  · cases answer
    exact withLane s _ _ fun l => ((disableLane s l).trans (linkReply ..)).trans (drive _)
  · cases answer

theorem keeps_readLane : Keeps (ListsKept s) .readLane s := by
  refine keeps_serveLink (refl s) rfl fun _ _ _ answer => ?_
  split at answer
  · cases answer
    exact withLane s _ _ fun l => (linkReply ..).after (of_same (fun _ => rfl) rfl rfl)
  · cases answer

theorem keeps_readStatus : Keeps (ListsKept s) .readStatus s := by
  refine keeps_serveLink (refl s) rfl fun _ _ _ answer => ?_
  split at answer
  · exact of_linkReply answer (refl s)
  · cases answer

theorem keeps_clearCounts : Keeps (ListsKept s) .clearCounts s := by
  refine keeps_serveLink (refl s) rfl fun _ _ _ answer => ?_
  split at answer
  · exact of_linkReply answer (clearCounters s)
  · cases answer

theorem keeps_readAlarms : Keeps (ListsKept s) .readAlarms s := by
  refine keeps_serveLink (refl s) rfl fun _ _ _ answer => ?_
  split at answer
  · split at answer <;> exact of_linkReply answer (refl s)
  · cases answer

theorem keeps_ackAlarm : Keeps (ListsKept s) .ackAlarm s := by
  refine keeps_serveLink (refl s) rfl fun _ _ _ answer => ?_
  split at answer
  · split at answer
    · cases answer
      exact (drive _).after ((linkReply ..).after (markRecords s _ fun _ => rfl))
    · exact of_linkReply answer (refl s)
  · cases answer

theorem keeps_clearLog : Keeps (ListsKept s) .clearLog s := by
  refine keeps_serveLink (refl s) rfl fun _ _ _ answer => ?_
  split at answer
  · exact of_linkReply answer (setRecords (List.filter_sublist.map _))
  · cases answer

theorem keeps_readNotices : Keeps (ListsKept s) .readNotices s := by
  refine keeps_serveLink (refl s) rfl fun _ _ _ answer => ?_
  split at answer
  · exact of_linkReply answer (of_same (fun _ => rfl) rfl rfl)
  · cases answer

theorem keeps_restart : Keeps (ListsKept s) .restart s := by
  refine ⟨_, rfl, serve_keeps .link (refl s) fun src k r t _ answer => ?_⟩
  split at answer
  · obtain rfl := Option.some.inj answer
    exact ((softRestart s).trans (of_portsOnly (portsOnly_replyOn ..))).trans (drive _)
  · cases answer

/-! ## The requests of both ports -/

theorem keeps_walk : Keeps (ListsKept s) .walk s := by
  refine ⟨_, rfl, serve_keeps .link (refl s) fun src k r t _ answer => ?_⟩
  split at answer
  · cases answer
    exact of_portsOnly ((portsOnly_offerClaim ..).trans (portsOnly_setWork ..))
  · cases answer

theorem keeps_clearTable : Keeps (ListsKept s) .clearTable s := by
  refine ⟨_, rfl, serve_keeps .link (refl s) fun src k r t _ answer => ?_⟩
  split at answer
  · cases answer
    exact of_portsOnly ((portsOnly_offerClaim ..).trans (portsOnly_setWork ..))
  · cases answer

theorem keeps_badRequest (p : PortId) : Keeps (ListsKept s) (.badRequest p) s := by
  refine ⟨_, rfl, ?_⟩
  split
  · exact of_portsOnly (portsOnly_replyOn ..)
  · exact serveBad s p

/-! ## Head links, cycle reports and the judgement unit -/

theorem keeps_identReply (l : LaneId) (k : HeadPos) (m : List Byte) : Keeps (ListsKept s) (.identReply l k m) s := by
  refine ⟨_, rfl, ?_⟩
  split
  · exact (takeIdent ..).trans (drive _)
  · exact refl s

theorem keeps_roundReport (l : LaneId) (k : HeadPos) (m : List Byte) : Keeps (ListsKept s) (.roundReport l k m) s := by
  refine ⟨_, rfl, ?_⟩
  split
  · exact takeRound ..
  · exact refl s

theorem keeps_probeReport (l : LaneId) (k : HeadPos) (m : List Byte) : Keeps (ListsKept s) (.probeReport l k m) s := by
  refine ⟨_, rfl, ?_⟩
  split
  · exact takeProbe ..
  · exact refl s

theorem keeps_headMessageDiscarded (l : LaneId) (k : HeadPos) (m : List Byte) :
    Keeps (ListsKept s) (.headMessageDiscarded l k m) s := by
  refine ⟨_, rfl, ?_⟩
  split
  · exact (discardMessage ..).trans (drive _)
  · exact refl s

theorem keeps_roundTimeout (l : LaneId) (k : HeadPos) : Keeps (ListsKept s) (.roundTimeout l k) s := by
  refine ⟨_, rfl, ?_⟩
  split
  · exact (attemptFailed ..).trans (drive _)
  · exact refl s

theorem keeps_cycleReport (l : LaneId) : Keeps (ListsKept s) (.cycleReport l) s := by
  refine ⟨_, rfl, ?_⟩
  split
  · exact (takeReport ..).after (modLane rfl)
  · exact refl s

theorem keeps_passage (l : LaneId) : Keeps (ListsKept s) (.passage l) s := by
  refine ⟨_, rfl, ?_⟩
  split
  · exact (drive _).after ((takePassage ..).after (modLane rfl))
  · exact refl s

theorem keeps_verdict (l : LaneId) : Keeps (ListsKept s) (.verdict l) s := by
  refine ⟨_, rfl, ?_⟩
  split
  · exact settled ..
  · exact refl s

theorem keeps_judgeAnswer : Keeps (ListsKept s) .judgeAnswer s := by
  refine ⟨_, rfl, ?_⟩
  split
  next i a inbox _ =>
    have taken : ListsKept s { s with judge := { s.judge with inbox := inbox } } := of_same (fun _ => rfl) rfl rfl
    exact (taken.trans (takeAnswer ..)).trans (drive _)
  · exact refl s

theorem keeps_changeNotice : Keeps (ListsKept s) .changeNotice s := by
  refine ⟨_, rfl, ?_⟩
  split
  next i k inbox _ =>
    have taken : ListsKept s { s with judge := { s.judge with inbox := inbox } } := of_same (fun _ => rfl) rfl rfl
    exact (taken.trans (takeNotice ..)).trans (drive _)
  · exact refl s

theorem keeps_graceEnd (i : Item) : Keeps (ListsKept s) (.graceEnd i) s := by
  refine ⟨_, rfl, ?_⟩
  split
  · split
    · exact (verify s i).trans (drive _)
    · exact refl s
  · exact refl s

theorem keeps_passageRemovalReport (l : LaneId) : Keeps (ListsKept s) (.passageRemovalReport l) s := by
  refine ⟨_, rfl, ?_⟩
  split
  · exact (drive _).after ((removeJudgements ..).after (modLane rfl))
  · exact refl s

/-! ## Deadlines and the two ports -/

theorem keeps_standingEnd (d : DeskId) : Keeps (ListsKept s) (.standingEnd d) s := by
  refine ⟨_, rfl, ?_⟩
  split
  · exact setStanding ..
  · exact refl s

theorem keeps_soundingEnd (n : BitVec 16) : Keeps (ListsKept s) (.soundingEnd n) s := by
  refine ⟨_, rfl, ?_⟩
  split
  · exact driveLane ..
  · exact refl s

theorem keeps_guardEnd (g : GroupId) : Keeps (ListsKept s) (.guardEnd g) s := by
  refine ⟨_, rfl, ?_⟩
  split
  · exact takeGuardEnd ..
  · exact refl s

theorem keeps_modDesk {c : Instr} {f : DeskPort → DeskPort} (answers : exec c s = .next (s.modDesk f)) :
    Keeps (ListsKept s) c s :=
  ⟨_, answers, of_same (fun _ => rfl) rfl rfl⟩

theorem keeps_modLink {c : Instr} {f : LinkPort → LinkPort} (answers : exec c s = .next (s.modLink f)) :
    Keeps (ListsKept s) c s :=
  ⟨_, answers, of_same (fun _ => rfl) rfl rfl⟩

/-- After a reset no lane has a passage, and the log and the judgement list are empty. -/
theorem keeps_powerOnReset (a r : BitVec 2) : Keeps (ListsKept s) (.powerOnReset a r) s := by
  have empty (m : LaneId) : (State.reset.lane m).PassagesSound := by
    rw [reset_lane]
    exact ⟨Nat.zero_le _, List.nodup_nil⟩
  exact ⟨_, rfl, fun _ => empty, fun _ => ⟨Nat.zero_le _, List.nodup_nil⟩, fun _ => List.nodup_nil⟩

/-! ## Every command -/

theorem exec_keeps (c : Instr) : Keeps (ListsKept s) c s := by
  cases c with
  | powerOnReset a r => exact keeps_powerOnReset s a r
  | restart => exact keeps_restart s
  | hold p => exact keeps_of_portsOnly s rfl (portsOnly_serveItems s p .hold)
  | issue p => exact keeps_of_portsOnly s rfl (portsOnly_serveItems s p .issue)
  | confirm p => exact keeps_of_portsOnly s rfl (portsOnly_serveItems s p .confirm)
  | cancel p => exact keeps_of_portsOnly s rfl (portsOnly_serveItems s p .cancel)
  | confirmBatch p => exact keeps_of_portsOnly s rfl (portsOnly_serveBatch s p .confirm)
  | cancelBatch p => exact keeps_of_portsOnly s rfl (portsOnly_serveBatch s p .cancel)
  | discharge p => exact keeps_of_portsOnly s rfl (portsOnly_serveItems s p .discharge)
  | query p => exact keeps_of_portsOnly s rfl (portsOnly_serveItems s p .query)
  | load => exact keeps_of_portsOnly s rfl (portsOnly_serveItems s .link .load)
  | walk => exact keeps_walk s
  | clearTable => exact keeps_clearTable s
  | standing => exact ⟨_, rfl, serveStanding s⟩
  | endStanding => exact ⟨_, rfl, serveEndStanding s⟩
  | ackLane p => exact ⟨_, rfl, serveAckLane s p⟩
  | restartLane p => exact ⟨_, rfl, serveRestartLane s p⟩
  | setHall => exact keeps_setHall s
  | setWindow => exact keeps_setWindow s
  | setRights => exact keeps_setRights s
  | setLane => exact keeps_setLane s
  | enableLane => exact keeps_enableLane s
  | disableLane => exact keeps_disableLane s
  | readLane => exact keeps_readLane s
  | readStatus => exact keeps_readStatus s
  | clearCounts => exact keeps_clearCounts s
  | readAlarms => exact keeps_readAlarms s
  | ackAlarm => exact keeps_ackAlarm s
  | clearLog => exact keeps_clearLog s
  | readNotices => exact keeps_readNotices s
  | badRequest p => exact keeps_badRequest s p
  | holdClaim => exact ⟨_, rfl, takeItemClaim s .hold⟩
  | issueClaim => exact ⟨_, rfl, (takeItemClaim s .issue).trans (drive _)⟩
  | confirmClaim => exact ⟨_, rfl, (takeItemClaim s .confirm).trans (drive _)⟩
  | cancelClaim => exact ⟨_, rfl, takeItemClaim s .cancel⟩
  | confirmBatchClaim => exact ⟨_, rfl, takeBatchClaim s .confirm⟩
  | cancelBatchClaim => exact ⟨_, rfl, takeBatchClaim s .cancel⟩
  | dischargeClaim => exact ⟨_, rfl, takeItemClaim s .discharge⟩
  | queryClaim => exact ⟨_, rfl, takeItemClaim s .query⟩
  | loadClaim => exact ⟨_, rfl, takeItemClaim s .load⟩
  | walkClaim => exact ⟨_, rfl, takeWalkClaim s⟩
  | clearTableClaim => exact ⟨_, rfl, takeClearTableClaim s⟩
  | judge => exact ⟨_, rfl, takeJudgeClaim s⟩
  | dueTimeReached => exact ⟨_, rfl, offerExpiry s⟩
  | expiryClaim => exact ⟨_, rfl, takeExpiryClaim s⟩
  | standingEnd d => exact keeps_standingEnd s d
  | soundingEnd n => exact keeps_soundingEnd s n
  | identReply l k m => exact keeps_identReply s l k m
  | roundReport l k m => exact keeps_roundReport s l k m
  | probeReport l k m => exact keeps_probeReport s l k m
  | headMessageDiscarded l k m => exact keeps_headMessageDiscarded s l k m
  | roundTimeout l k => exact keeps_roundTimeout s l k
  | abort l k => exact ⟨_, rfl, sendAbort s l k⟩
  | guardEnd g => exact keeps_guardEnd s g
  | cycleReport l => exact keeps_cycleReport s l
  | passage l => exact keeps_passage s l
  | verdict l => exact keeps_verdict s l
  | judgeAnswer => exact keeps_judgeAnswer s
  | changeNotice => exact keeps_changeNotice s
  | graceEnd i => exact keeps_graceEnd s i
  | probeResult l => exact ⟨_, rfl, (takeProbeResult s l).trans (drive _)⟩
  | passageRemovalReport l => exact keeps_passageRemovalReport s l
  | deskAddressByte a d => exact keeps_modDesk s rfl
  | deskWriteByte b => exact keeps_modDesk s rfl
  | deskRepeatedStartWrite a d => exact keeps_modDesk s rfl
  | deskStopCondition => exact keeps_modDesk s rfl
  | deskReplyByte => exact keeps_modDesk s rfl
  | deskReplyDeclined => exact keeps_modDesk s rfl
  | serviceByte b => exact keeps_modLink s rfl
  | frameTimeout => exact keeps_modLink s rfl
  | replySent => exact keeps_modLink s rfl

variable {s}

/-- A step runs a command on the state with the rest of its queue, or on an idle part what is due, or lets a millisecond pass. -/
theorem of_step {t : State} (run : step s = .next t) : ListsKept s t := by
  have ran {c : Instr} {u : State} (answer : exec c u = .next t) (kept : ListsKept s u) : ListsKept s t := by
    obtain ⟨t', answer', kept'⟩ := exec_keeps u c
    rw [answer'] at answer
    cases answer
    exact kept.trans kept'
  unfold step at run
  split at run
  · exact ran run (of_same (fun _ => rfl) rfl rfl)
  · unfold idle at run
    split at run
    · exact ran run (refl s)
    · cases run
      exact of_same (fun _ => rfl) rfl rfl

end ListsKept

end Sys2Proof.Machine

/-! # The passage lists, the alarm log and the judgement list, settled -/

namespace Sys2Proof.Proofs

open Sys2Proof Sys2Proof.Machine Sys2Proof.Machine.State

/-- Settles O57: every command comes to writes that keep the passage lists, the alarm log and the judgement list sound. -/
theorem stepsKeepTheListsSound : Obligations.StepsKeepTheListsSound := by
  unfold Obligations.StepsKeepTheListsSound
  intro s t run
  obtain ⟨passages, log, judgements⟩ := ListsKept.of_step run
  exact ⟨passages, log, judgements⟩

end Sys2Proof.Proofs

/-! # The rows of the stage decisions (06 R115 to R117) -/

namespace Sys2Proof.Machine

section
variable {form : Form} {t : Tracked} (both : form = .paired ∨ form = .alternate)
include both

theorem decideStage_tracking_of_inner (stage : t.p.stage = .tracking) (inner : t.newInner = true) (outer : t.newOuter = false) :
    decideStage form t = { t with p := { t.p with stage := .inner } } := by
  unfold decideStage
  rw [stage, inner, outer]
  rcases both with rfl | rfl <;> rfl

theorem decideStage_tracking_of_outer (stage : t.p.stage = .tracking) (inner : t.newInner = false) (outer : t.newOuter = true) :
    decideStage form t = { t with p := { t.p with stage := .outer } } := by
  unfold decideStage
  rw [stage, inner, outer]
  rcases both with rfl | rfl <;> rfl

/-- A passage that both heads confirm at once came in if a pair saw it at the outer head first, and is leaving otherwise. -/
theorem decideStage_tracking_of_both (stage : t.p.stage = .tracking) (inner : t.newInner = true) (outer : t.newOuter = true) :
    decideStage form t = if form = .paired ∧ t.p.firstHead = .outer then { t with p := { t.p with stage := .entered } }
      else { t with leaving := true } := by
  unfold decideStage
  rw [stage, inner, outer]
  rcases both with rfl | rfl <;> simp

theorem decideStage_inner_of_outer (stage : t.p.stage = .inner) (outer : t.newOuter = true) :
    decideStage form t = { t with leaving := true } := by
  unfold decideStage
  rw [stage, outer]
  rcases both with rfl | rfl <;> rfl

theorem decideStage_outer_of_inner (stage : t.p.stage = .outer) (inner : t.newInner = true) :
    decideStage form t = { t with p := { t.p with stage := .entered } } := by
  unfold decideStage
  rw [stage, inner]
  rcases both with rfl | rfl <;> rfl

theorem decideStage_of_unconfirmed (inner : t.newInner = false) (outer : t.newOuter = false) : decideStage form t = t := by
  unfold decideStage
  rw [inner, outer]
  rcases both with rfl | rfl <;> cases t.p.stage <;> rfl

theorem decideStage_inner_still (stage : t.p.stage = .inner) (outer : t.newOuter = false) : decideStage form t = t := by
  unfold decideStage
  rw [stage, outer]
  rcases both with rfl | rfl <;> rfl

theorem decideStage_outer_still (stage : t.p.stage = .outer) (inner : t.newInner = false) : decideStage form t = t := by
  unfold decideStage
  rw [stage, inner]
  rcases both with rfl | rfl <;> rfl

end

/-- A passage that a decision marks as leaving keeps its stage until it is sent. -/
theorem decideStage_p_of_leaves {form : Form} {t : Tracked} (stays : t.leaving = false)
    (leaves : (decideStage form t).leaving = true) : (decideStage form t).p = t.p := by
  rcases decideStage_cases form t with same | marked | ⟨stage, moved⟩
  · rw [same]
  · rw [marked]
  · rw [moved] at leaves
    exact absurd (stays.symm.trans leaves) Bool.false_ne_true

namespace State

theorem settlePassage_eq (v : Verdict) (i : Item) (p : Passage) : settlePassage v i p =
    if p.item = i ∧ p.stage = .sent then { p with stage := .settled, verdict := some v } else p := by
  simp [settlePassage]

theorem exec_verdict {s : State} {l : LaneId} {i : Item} {v : Verdict} {rest : List (Item × Verdict)}
    (waiting : (s.lane l).verdicts = (i, v) :: rest) : exec (.verdict l) s =
    .next (s.setLane l { s.lane l with verdicts := rest, passages := (s.lane l).passages.map (settlePassage v i) }) := by
  show execVerdict l s = _
  unfold execVerdict
  rw [waiting]
  rfl

end State

/-- What a new item gets: a passage seen for the first time, confirmed at once where one sighting is enough. -/
theorem newPassage_confirmed (count : Nat) (w : Sweep) (n : Normal) :
    ((newPassage count w n).newInner = true ↔ sees w.inner n.item = true ∧ count = 1)
      ∧ ((newPassage count w n).newOuter = true ↔ sees w.outer n.item = true ∧ count = 1)
      ∧ (newPassage count w n).p.innerConfirmed = (if sees w.inner n.item = true ∧ count = 1 then some w.innerEnd else none)
      ∧ (newPassage count w n).p.outerConfirmed = (if sees w.outer n.item = true ∧ count = 1 then some w.outerEnd else none) := by
  simp [newPassage]

end Sys2Proof.Machine

/-! # The stages of passages and the verdicts, settled -/

namespace Sys2Proof.Proofs

open Sys2Proof Sys2Proof.Machine Sys2Proof.Machine.State

/-- Settles O42, row by row of the stage decisions, and by the cases of where a new item finds its place. -/
theorem passageStagesFollowConfirmationsAndVerdicts : Obligations.PassageStagesFollowConfirmationsAndVerdicts := by
  unfold Obligations.PassageStagesFollowConfirmationsAndVerdicts
  refine ⟨fun t form => ⟨fun stays stage both => ?_, fun stage outer both => ?_, fun stays stage inner both => ?_,
      fun h single stage inner outer => ?_, decideStage_of_decided, fun both => ?_, fun h single inner outer => ?_,
      decideStage_frame form t, decideStage_p_of_leaves, sendLeaving_eq t⟩,
    fun s l i v rest waiting => ?_, newItems_eq, fun count w n => ?_,
    fun count w work n => ⟨placeNew_of_room, fun full => ⟨?_, fun noneDecided => ⟨?_, ?_⟩⟩⟩⟩
  · refine ⟨fun inner outer => ?_, fun inner outer => ?_, fun inner outer paired first => ?_, fun inner outer other => ?_⟩
    · rw [decideStage_tracking_of_inner both stage inner outer]
      exact ⟨rfl, stays⟩
    · rw [decideStage_tracking_of_outer both stage inner outer]
      exact ⟨rfl, stays⟩
    · rw [decideStage_tracking_of_both both stage inner outer, if_pos ⟨paired, first⟩]
      exact ⟨rfl, stays⟩
    · have leaves : ¬ (form = .paired ∧ t.p.firstHead = .outer) := fun ⟨paired, first⟩ =>
        other.elim (fun alternate => by simp [paired] at alternate) fun notOuter => notOuter first
      rw [decideStage_tracking_of_both both stage inner outer, if_neg leaves]
  · rw [decideStage_inner_of_outer both stage outer]
  · rw [decideStage_outer_of_inner both stage inner]
    exact ⟨rfl, stays⟩
  · rw [single, decideStage_single, if_pos ⟨stage, inner, outer⟩]
  · exact ⟨decideStage_of_unconfirmed both, decideStage_inner_still both, decideStage_outer_still both⟩
  · rw [single, decideStage_single, if_neg]
    rintro ⟨-, innerConfirmed, outerConfirmed⟩
    cases h with
    | inner => exact innerConfirmed rfl (inner rfl)
    | outer => exact outerConfirmed rfl (outer rfl)
  · rw [exec_verdict waiting, funext (settlePassage_eq v i)]
  · obtain ⟨newInner, newOuter, innerConfirmed, outerConfirmed⟩ := newPassage_confirmed count w n
    exact ⟨rfl, rfl, rfl, rfl, rfl, rfl, rfl, rfl, rfl, rfl, rfl, rfl, rfl, innerConfirmed, outerConfirmed, newInner, newOuter⟩
  · intro older v newer list decided first
    exact placeNew_of_victim full (list ▸ victim_of_decided decided first)
  · intro older v newer list unconfirmed first
    have found := victim_of_unconfirmed (fun t mem => noneDecided t (list ▸ mem)) unconfirmed first
    exact placeNew_of_victim full (list ▸ found)
  · exact fun noneUnconfirmed => placeNew_of_crowd full (victim_eq_none noneDecided noneUnconfirmed)

end Sys2Proof.Proofs

/-! # A cycle report worked (06 R108 to R114) -/

namespace Sys2Proof.Machine

namespace State

/-- A half of a report, if the report has it, sees an item. -/
def SeenIn (s : State) (half : Option Half) (i : Item) : Prop := ∃ x, half = some x ∧ sees (s.sightings x) i = true

section
variable (s : State) (r : CycleReport) (count : Nat) (p : Passage)

theorem newInner_iff : (updatePassage count (s.sweep r) p).newInner = true ↔
    s.SeenIn r.inner p.item ∧ p.innerTally + 1 = count ∧ p.innerConfirmed = none := by
  rw [updatePassage_newInner, sees_sweep_inner]
  rfl

theorem newOuter_iff : (updatePassage count (s.sweep r) p).newOuter = true ↔
    s.SeenIn r.outer p.item ∧ p.outerTally + 1 = count ∧ p.outerConfirmed = none := by
  rw [updatePassage_newOuter, sees_sweep_outer]
  rfl

end

section
variable {s : State} {r : CycleReport} {count : Nat} {p : Passage}

theorem innerTally_of_seen (seen : s.SeenIn r.inner p.item) :
    (updatePassage count (s.sweep r) p).p.innerTally = min 15 (p.innerTally + 1) := if_pos ((sees_sweep_inner s r _).2 seen)

theorem innerTally_of_unseen (unseen : ¬ s.SeenIn r.inner p.item) :
    (updatePassage count (s.sweep r) p).p.innerTally = p.innerTally := if_neg fun sees => unseen ((sees_sweep_inner s r _).1 sees)

theorem outerTally_of_seen (seen : s.SeenIn r.outer p.item) :
    (updatePassage count (s.sweep r) p).p.outerTally = min 15 (p.outerTally + 1) := if_pos ((sees_sweep_outer s r _).2 seen)

theorem outerTally_of_unseen (unseen : ¬ s.SeenIn r.outer p.item) :
    (updatePassage count (s.sweep r) p).p.outerTally = p.outerTally := if_neg fun sees => unseen ((sees_sweep_outer s r _).1 sees)

theorem innerConfirmed_of_new {y : Half} (inner : r.inner = some y) (new : (updatePassage count (s.sweep r) p).newInner = true) :
    (updatePassage count (s.sweep r) p).p.innerConfirmed = some y.endTime := by
  rw [updatePassage_p, if_pos new, sweep_innerEnd s r inner]

theorem innerConfirmed_of_old (old : (updatePassage count (s.sweep r) p).newInner = false) :
    (updatePassage count (s.sweep r) p).p.innerConfirmed = p.innerConfirmed := if_neg (Bool.eq_false_iff.1 old)

/-- A confirmed time once set stays. -/
theorem innerConfirmed_stays (set : p.innerConfirmed ≠ none) :
    (updatePassage count (s.sweep r) p).p.innerConfirmed = p.innerConfirmed :=
  innerConfirmed_of_old (Bool.eq_false_iff.2 fun new => set ((newInner_iff s r count p).1 new).2.2)

theorem outerConfirmed_of_new {y : Half} (outer : r.outer = some y) (new : (updatePassage count (s.sweep r) p).newOuter = true) :
    (updatePassage count (s.sweep r) p).p.outerConfirmed = some y.endTime := by
  rw [updatePassage_p, if_pos new, sweep_outerEnd s r outer]

theorem outerConfirmed_of_old (old : (updatePassage count (s.sweep r) p).newOuter = false) :
    (updatePassage count (s.sweep r) p).p.outerConfirmed = p.outerConfirmed := if_neg (Bool.eq_false_iff.1 old)

/-- A confirmed time once set stays. -/
theorem outerConfirmed_stays (set : p.outerConfirmed ≠ none) :
    (updatePassage count (s.sweep r) p).p.outerConfirmed = p.outerConfirmed :=
  outerConfirmed_of_old (Bool.eq_false_iff.2 fun new => set ((newOuter_iff s r count p).1 new).2.2)

theorem missCount_of_seen (seen : s.SeenIn r.inner p.item ∨ s.SeenIn r.outer p.item) :
    (updatePassage count (s.sweep r) p).p.missCount = 0 := by
  have sees : (sees (s.sweep r).inner p.item || sees (s.sweep r).outer p.item) = true := by
    rw [Bool.or_eq_true, sees_sweep_inner, sees_sweep_outer]
    exact seen
  exact if_pos sees

/-- A passage that no half sees keeps its miss count where a half is lossy, and misses once more otherwise. -/
theorem missCount_of_unseen (inner : ¬ s.SeenIn r.inner p.item) (outer : ¬ s.SeenIn r.outer p.item) :
    (updatePassage count (s.sweep r) p).p.missCount = if (s.sweep r).lossy then p.missCount else min 15 (p.missCount + 1) := by
  refine if_neg ?_
  rw [Bool.or_eq_true, sees_sweep_inner, sees_sweep_outer]
  exact not_or.2 ⟨inner, outer⟩

end

end State

/-! ## The list that a report leaves -/

/-- A passage that leaves the list by its misses. -/
def leavesByMisses (x : LaneSettings) (t : Tracked) : Bool :=
  decide (x.missLimit ≤ t.p.missCount ∧ (t.p.stage = .tracking ∨ t.p.stage = .inner ∨ t.p.stage = .settled ∨ t.p.stage = .entered
    ∨ t.p.stage = .outer ∧ x.outerOnly = .ignore))

theorem removesByMisses_eq (x : LaneSettings) : removesByMisses x.missLimit x.outerOnly = leavesByMisses x := by
  funext t
  rw [leavesByMisses, Bool.eq_iff_iff, removesByMisses_iff, decide_eq_true_iff]

theorem removalReports_filter (gone : Tracked → Bool) (ts : List Tracked) : removalReports (ts.filter gone) =
    (ts.filter fun t => gone t && decide (t.p.stage = .settled)).map fun t => TrackerMessage.removed t.p.item := by
  have both (t : Tracked) : (decide (t.p.stage = .settled) && gone t) = (gone t && decide (t.p.stage = .settled)) :=
    Bool.and_comm ..
  unfold removalReports
  rw [List.filter_filter]
  simp only [← both]
  rfl

theorem workReport_eq (x : LaneSettings) (w : Sweep) (ps : List Passage) : workReport x w ps =
    (newItems w ps).foldl (placeNew x.confirmationCount w)
      { list := ((ps.map (updatePassage x.confirmationCount w)).filter fun t => !leavesByMisses x t).map fun t =>
          if x.missLimit ≤ t.p.missCount ∧ t.p.stage = .outer ∧ x.outerOnly = .judge then { t with leaving := true } else t
        messages := ((ps.map (updatePassage x.confirmationCount w)).filter fun t =>
          leavesByMisses x t && decide (t.p.stage = .settled)).map fun t => TrackerMessage.removed t.p.item
        drops := 0 } := by
  unfold workReport
  dsimp only
  rw [funext (judgeOuterOnly_eq x.missLimit x.outerOnly), removesByMisses_eq, removalReports_filter]

namespace State

variable {s : State} {l : LaneId} {r : CycleReport} {rest : List CycleReport}

/-- The state after a lane's first report is worked: its lane is written, and dropped sightings raise CROWD. -/
def afterReport (s : State) (l : LaneId) (r : CycleReport) (rest : List CycleReport) : State :=
  if (workReport (s.lane l).settings (s.sweep r) (s.lane l).passages).drops = 0
    then s.setLane l { s.tracked l r with reports := rest }
    else (s.setLane l { s.tracked l r with reports := rest }).raise .crowd

theorem exec_cycleReport (waiting : (s.lane l).reports = r :: rest) :
    exec (.cycleReport l) s = .next (s.afterReport l r rest) := by
  have taken : (s.setLane l { s.lane l with reports := rest }).tracked l r = { s.tracked l r with reports := rest } := by
    unfold tracked
    rw [lane_setLane_same]
    rfl
  have worked : (s.setLane l { s.lane l with reports := rest }).takeReport l r = s.afterReport l r rest := by
    rw [takeReport_eq, taken, setLane_setLane, lane_setLane_same]
    rfl
  rw [← worked]
  show execCycleReport l s = _
  unfold execCycleReport
  rw [waiting]
  rfl

theorem afterReport_frame (s : State) (l : LaneId) (r : CycleReport) (rest : List CycleReport) :
    s.afterReport l r rest = { s with
      lanes := (s.setLane l { s.tracked l r with reports := rest }).lanes
      link := if (workReport (s.lane l).settings (s.sweep r) (s.lane l).passages).drops = 0 then s.link
        else { s.link with notices := { s.link.notices with crowd := true }, noticeLine := true } } := by
  unfold afterReport
  split <;> rfl

theorem lane_afterReport (s : State) (l : LaneId) (r : CycleReport) (rest : List CycleReport) (m : LaneId) :
    (s.afterReport l r rest).lane m = if m = l then { s.tracked l r with reports := rest } else s.lane m := by
  rw [afterReport_frame]
  exact lane_setLane ..

theorem lanesOnly_afterReport (s : State) (l : LaneId) (r : CycleReport) (rest : List CycleReport) :
    LanesOnly s (s.afterReport l r rest) := by
  unfold afterReport
  split <;> rfl

/-- A SENT passage stays in the list, as the report updates it. -/
theorem sent_mem_tracked (distinct : ((s.lane l).passages.map Passage.item).Nodup) {p : Passage} (mem : p ∈ (s.lane l).passages)
    (sent : p.stage = .sent) :
    (updatePassage (s.lane l).settings.confirmationCount (s.sweep r) p).p ∈ (s.tracked l r).passages := by
  obtain ⟨inner, outer⟩ := s.sweep_distinct r
  have stands := (workReport_distinct (s.lane l).settings inner outer distinct).2 p mem sent
  refine List.mem_map.2 ⟨_, List.mem_map.2 ⟨_, stands, rfl⟩, ?_⟩
  rw [decideStage_of_decided (.inl sent)]
  rfl

end State

end Sys2Proof.Machine

/-! # The cycle reports, settled -/

namespace Sys2Proof.Proofs

open Sys2Proof Sys2Proof.Machine Sys2Proof.Machine.State

/-- Settles O41: the report is worked as it stands, what it makes of each passage is stated once, and a SENT passage is neither
removed nor evicted nor moved by a decision. -/
theorem cycleReportsUpdateSentPassages : Obligations.CycleReportsUpdateSentPassages := by
  unfold Obligations.CycleReportsUpdateSentPassages
  intro s l r rest waiting
  have own : (s.afterReport l r rest).lane l = { s.tracked l r with reports := rest } := by rw [lane_afterReport, if_pos rfl]
  refine ⟨s.afterReport l r rest, exec_cycleReport waiting, ?_, lanesOnly_afterReport .., fun m other => ?_, ?_,
    fun bounded distinct => ?_, fun distinct p mem sent => ?_, ?_, s.sees_sightings⟩
  · rw [own]
  · rw [lane_afterReport, if_neg other]
  · rw [own]
    rfl
  · rw [own]
    exact tracked_sound ⟨bounded, distinct⟩ r
  · rw [own]
    refine ⟨_, sent_mem_tracked distinct mem sent, rfl, sent, rfl, rfl, rfl, rfl, rfl, rfl, innerTally_of_seen,
      innerTally_of_unseen, outerTally_of_seen, outerTally_of_unseen, innerConfirmed_stays, fun x inner unset seen reached => ?_, outerConfirmed_stays,
      fun x outer unset seen reached => ?_, missCount_of_seen, fun inner outer => ?_⟩
    · exact innerConfirmed_of_new inner ((newInner_iff ..).2 ⟨seen, reached, unset⟩)
    · exact outerConfirmed_of_new outer ((newOuter_iff ..).2 ⟨seen, reached, unset⟩)
    · rw [missCount_of_unseen inner outer]
      exact ⟨fun lossy => if_pos ((sweep_lossy s r).2 lossy), fun clear => if_neg fun lossy => clear ((sweep_lossy s r).1 lossy)⟩
  · rw [own, afterReport_frame]
    unfold tracked
    rw [workReport_eq]
    refine ⟨rfl, rfl, rfl, rfl, rfl, fun p => ⟨newInner_iff .., newOuter_iff .., rfl, rfl, rfl, innerTally_of_seen,
      innerTally_of_unseen, outerTally_of_seen, outerTally_of_unseen, fun y => innerConfirmed_of_new, innerConfirmed_of_old,
      fun y => outerConfirmed_of_new, outerConfirmed_of_old, missCount_of_seen, fun inner outer => ?_⟩⟩
    rw [missCount_of_unseen inner outer]
    refine ⟨fun lossy => if_pos ((sweep_lossy s r).2 lossy), fun clear => if_neg fun lossy => ?_⟩
    obtain ⟨y, half, is⟩ := (sweep_lossy s r).1 lossy
    exact Bool.false_ne_true ((clear y half).symm.trans is)

end Sys2Proof.Proofs

/-! # Sounders and lamps -/

namespace Sys2Proof.Machine.State

/-! ## What a lane shows (08 R159, R161) -/

theorem sounds_iff (s : State) (l : LaneId) : s.sounds l = true ↔ (s.lane l).state ≠ .disabled
    ∧ ∃ r ∈ s.log.records, r.lane = l ∧ r.state = .opened ∧ s.hallTime < r.soundingEnd := by
  simp [sounds, and_assoc]

theorem holdsExit_iff (s : State) (l : LaneId) : s.holdsExit l = true ↔ ∃ j ∈ s.judge.entries, j.owner = l
    ∧ (j.stage = .heldAbsent ∨ j.stage = .heldPending ∨ j.stage = .verifying) := by
  simp only [holdsExit, List.any_eq_true, Bool.and_eq_true, beq_iff_eq, JudgementStage.held_iff]

theorem sounds_of_disabled {s : State} {l : LaneId} (disabled : (s.lane l).state = .disabled) : s.sounds l = false := by
  simp [sounds, disabled]

/-- The four colours of a lamp in their order: each applies where none before it does. -/
theorem lampOf_eq (s : State) (l : LaneId) : s.lampOf l =
    if (s.lane l).state = .disabled then .off
    else if s.sounds l then .red
    else if (s.lane l).state = .inService ∧ s.holdsExit l = false then .green
    else .amber := by
  unfold lampOf
  cases state : (s.lane l).state with
  | disabled => rfl
  | starting | single | stopped => simp
  | inService => cases s.holdsExit l <;> simp

theorem lampOf_eq_off_iff (s : State) (l : LaneId) : s.lampOf l = .off ↔ (s.lane l).state = .disabled := by
  rw [lampOf_eq]
  split_ifs <;> simp_all

theorem lampOf_eq_red_iff (s : State) (l : LaneId) : s.lampOf l = .red ↔ s.sounds l = true := by
  rw [lampOf_eq]
  split_ifs with disabled
  · simp [sounds_of_disabled disabled]
  all_goals simp_all

theorem lampOf_eq_amber_iff (s : State) (l : LaneId) : s.lampOf l = .amber ↔
    (s.lane l).state ≠ .disabled ∧ ¬ s.sounds l = true ∧ (s.holdsExit l = true
      ∨ (s.lane l).state = .starting ∨ (s.lane l).state = .single ∨ (s.lane l).state = .stopped) := by
  rw [lampOf_eq]
  cases state : (s.lane l).state with
  | disabled => simp
  | starting | single | stopped => cases s.sounds l <;> simp
  | inService => cases s.sounds l <;> cases s.holdsExit l <;> simp

theorem lampOf_eq_green_iff (s : State) (l : LaneId) :
    s.lampOf l = .green ↔ (s.lane l).state = .inService ∧ ¬ s.sounds l = true ∧ ¬ s.holdsExit l = true := by
  rw [lampOf_eq]
  cases state : (s.lane l).state with
  | disabled | starting | single | stopped => cases s.sounds l <;> simp
  | inService => cases s.sounds l <;> cases s.holdsExit l <;> simp

/-! ## Driving the outputs -/

/-- The lane with its two outputs set to what it shows. -/
def shown (s : State) (l : LaneId) : Lane := { s.lane l with sounder := s.sounds l, lamp := s.lampOf l }

theorem driveLane_eq (s : State) (l : LaneId) : s.driveLane l = s.setLane l (s.shown l) := rfl

/-- What a lane shows does not turn on the outputs of any lane. -/
theorem driveLane_shown (s : State) (l m : LaneId) :
    (s.driveLane l).sounds m = s.sounds m ∧ (s.driveLane l).lampOf m = s.lampOf m := by
  have state : ((s.driveLane l).lane m).state = (s.lane m).state := by rw [driveLane_lane s l m]
  have sounder : (s.driveLane l).sounds m = s.sounds m := by
    unfold sounds
    rw [state]
    rfl
  refine ⟨sounder, ?_⟩
  unfold lampOf
  rw [state, sounder]
  rfl

/-- Driving some lanes sets the outputs of these and of no other. -/
theorem lane_foldl_driveLane {ls : List LaneId} (distinct : ls.Nodup) (s : State) (m : LaneId) :
    (ls.foldl driveLane s).lane m = if m ∈ ls then s.shown m else s.lane m := by
  induction ls generalizing s with
  | nil => simp
  | cons l ls ih =>
    obtain ⟨fresh, distinct⟩ := List.nodup_cons.1 distinct
    rw [List.foldl_cons, ih distinct]
    by_cases same : m = l
    · subst same
      simp [fresh, driveLane_eq]
    · have stays : (s.driveLane l).lane m = s.lane m := lane_setLane_other s _ same
      unfold shown
      rw [(driveLane_shown s l m).1, (driveLane_shown s l m).2, stays]
      simp [same]

/-- Driving the outputs sets those of every lane to what it shows. -/
theorem drive_lane_eq (s : State) (m : LaneId) : s.drive.lane m = s.shown m := by
  unfold drive
  rw [lane_foldl_driveLane allLanes_nodup, if_pos (mem_allLanes m)]

/-! ## SOUNDING END (08 R159) -/

/-- In a log whose numbers are distinct the record whose sounding end is over is the one of its number. -/
theorem soundedOut_of_mem {s : State} (sound : s.alarmLogSound) {r : AlarmRecord} (mem : r ∈ s.log.records)
    (opened : r.state = .opened) (reached : r.soundingEnd ≤ s.hallTime) : s.soundedOut r.number = some r := by
  cases found : s.soundedOut r.number with
  | none => exact absurd (by simp [opened, reached]) (List.find?_eq_none.1 found r mem)
  | some x =>
    have number : x.number = r.number := by
      have test := List.find?_some found
      simp only [Bool.and_eq_true, beq_iff_eq] at test
      exact test.1.1
    rw [List.inj_on_of_nodup_map sound.2 (List.mem_of_find?_eq_some found) mem number]

theorem exec_soundingEnd {s : State} {number : BitVec 16} {r : AlarmRecord} (found : s.soundedOut number = some r) :
    exec (.soundingEnd number) s = .next (s.setLane r.lane (s.shown r.lane)) := by
  show execSoundingEnd number s = _
  unfold execSoundingEnd
  rw [found]
  rfl

end Sys2Proof.Machine.State

/-! # Sounders and lamps, settled -/

namespace Sys2Proof.Proofs

open Sys2Proof Sys2Proof.Machine Sys2Proof.Machine.State

/-- Settles O51: the outputs of a lane that is driven are what it shows, and SOUNDING END drives the lane of the one record of its
number. -/
theorem soundersAndLampsFollowTheirLane : Obligations.SoundersAndLampsFollowTheirLane := by
  unfold Obligations.SoundersAndLampsFollowTheirLane
  intro s
  refine ⟨⟨_, drive_frame s⟩, fun l => ⟨drive_lane s l, ?_, ?_⟩, fun sound r mem opened reached => ?_⟩
  · rw [drive_sounder, sounds_iff]
  · have lamp : (s.drive.lane l).lamp = s.lampOf l := by rw [drive_lane_eq, shown]
    intro state lit sounding
    rw [lamp]
    have sounds : sounding ↔ s.sounds l = true := by rw [← drive_sounder]
    have holds : lit ↔ s.holdsExit l = true := (holdsExit_iff s l).symm
    rw [sounds, holds]
    exact ⟨lampOf_eq_off_iff s l, lampOf_eq_red_iff s l, lampOf_eq_amber_iff s l, lampOf_eq_green_iff s l⟩
  · rw [exec_soundingEnd (soundedOut_of_mem sound mem opened reached), drive_lane_eq]
    rfl

end Sys2Proof.Proofs

/-! # The judgement unit: its claim, its verdicts and its commands -/

namespace Sys2Proof.Machine

namespace State

/-! ## The outputs driven at the end of a step leave the rest -/

@[simp] theorem drive_judge (s : State) : s.drive.judge = s.judge := by rw [drive_frame]
@[simp] theorem drive_log (s : State) : s.drive.log = s.log := by rw [drive_frame]
@[simp] theorem drive_port (s : State) : s.drive.port = s.port := by rw [drive_frame]

@[simp] theorem drive_findJudgement (s : State) (i : Item) : s.drive.findJudgement i = s.findJudgement i := by
  unfold findJudgement
  rw [drive_judge]

@[simp] theorem drive_toJudge (s : State) (l : LaneId) : (s.drive.lane l).toJudge = (s.lane l).toJudge := by rw [drive_lane s l]
@[simp] theorem drive_verdicts (s : State) (l : LaneId) : (s.drive.lane l).verdicts = (s.lane l).verdicts := by rw [drive_lane s l]
@[simp] theorem drive_counts (s : State) (l : LaneId) : (s.drive.lane l).counts = (s.lane l).counts := by rw [drive_lane s l]
@[simp] theorem drive_awaited (s : State) (l : LaneId) : (s.drive.lane l).awaited = (s.lane l).awaited := by rw [drive_lane s l]
@[simp] theorem drive_results (s : State) (l : LaneId) : (s.drive.lane l).results = (s.lane l).results := by rw [drive_lane s l]

theorem judgingOnly_drive (s : State) : JudgingOnly s s.drive := (lanesOnly_drive s).judging

/-! ## The judgements of a list that is written -/

@[simp] theorem findJudgement_setLane (s : State) (l : LaneId) (x : Lane) (i : Item) :
    (s.setLane l x).findJudgement i = s.findJudgement i := rfl

theorem findJudgement_addJudgement {s : State} {j : Judgement} (none : s.findJudgement j.item = none) :
    (s.addJudgement j).findJudgement j.item = some j := by
  unfold findJudgement addJudgement at *
  rw [List.find?_append, none]
  simp

/-- A change that keeps items and owners leaves the owner of every judgement. -/
theorem owner_modJudgement (s : State) (i k : Item) {f : Judgement → Judgement}
    (keeps : ∀ e, (f e).item = e.item ∧ (f e).owner = e.owner) :
    ((s.modJudgement i f).findJudgement k).map Judgement.owner = (s.findJudgement k).map Judgement.owner := by
  have item : ((fun e : Judgement => e.item == k) ∘ fun e => if e.item == i then f e else e) = fun e => e.item == k := by
    funext e
    by_cases changed : e.item = i
    · simp [changed, (keeps e).1]
    · simp [changed]
  have owner : (Judgement.owner ∘ fun e => if e.item == i then f e else e) = Judgement.owner := by
    funext e
    by_cases changed : e.item = i
    · simp [changed, (keeps e).2]
    · simp [changed]
  unfold findJudgement modJudgement
  rw [List.find?_map, item, Option.map_map, owner]

/-! ## The claim offered (07 R133) -/

/-- The claim of the item at the front of the asking queue, with the lane that owns its judgement. -/
def frontClaim (s : State) : Option (Item × LaneId) :=
  s.judge.asking.head?.bind fun k => (s.findJudgement k).map fun n => (k, n.owner)

/-- A change that keeps items and owners leaves the claim of the front item. -/
theorem frontClaim_modJudgement (s : State) (i : Item) {f : Judgement → Judgement}
    (keeps : ∀ e, (f e).item = e.item ∧ (f e).owner = e.owner) : (s.modJudgement i f).frontClaim = s.frontClaim := by
  unfold frontClaim
  refine Option.bind_congr fun k _ => ?_
  have owner := congrArg (Option.map fun m => (k, m)) (owner_modJudgement s i k keeps)
  rwa [Option.map_map, Option.map_map] at owner

/-- The claim at the table port after an offer: that of the front item where no claim is out. -/
theorem offerJudge_eq (s : State) : s.offerJudge = { s with port := { s.port with
    judge := if s.port.judge = none ∧ s.judge.answer = none then s.frontClaim else s.port.judge } } := by
  by_cases free : s.port.judge = none ∧ s.judge.answer = none
  · rw [if_pos free]
    unfold offerJudge frontClaim
    rw [free.1, free.2]
    have same : s = { s with port := { s.port with judge := none } } := by rw [← free.1]
    cases asking : s.judge.asking with
    | nil => exact same
    | cons k rest =>
      cases found : s.findJudgement k with
      | none => simpa [found] using same
      | some j => simp [found]
  · rw [if_neg free]
    unfold offerJudge
    split
    next waiting answer _ => exact absurd ⟨waiting, answer⟩ free
    · rfl

@[simp] theorem offerJudge_log (s : State) : s.offerJudge.log = s.log := by rw [offerJudge_eq]

@[simp] theorem offerJudge_findJudgement (s : State) (i : Item) : s.offerJudge.findJudgement i = s.findJudgement i := by
  unfold findJudgement
  rw [offerJudge_judge]

theorem joinAsking_eq (s : State) (i : Item) : s.joinAsking i = { s with
    judge := { s.judge with asking := s.judge.asking ++ [i] }
    port := { s.port with judge :=
      if s.port.judge = none ∧ s.judge.answer = none then
        (s.judge.asking ++ [i]).head?.bind fun k => (s.findJudgement k).map fun n => (k, n.owner)
      else s.port.judge } } := by
  unfold joinAsking
  rw [offerJudge_eq]
  rfl

/-! ## Verdicts (07 R134, R141, R143, R144) -/

/-- A verdict returned to a lane, and counted there. -/
theorem returnVerdict_modCounts (s : State) (l : LaneId) (i : Item) (v : Verdict) (f : LaneCounts → LaneCounts) :
    (s.returnVerdict l i v).modCounts l f =
      s.setLane l { s.lane l with verdicts := (s.lane l).verdicts ++ [(i, v)], counts := f (s.lane l).counts } := by
  unfold returnVerdict modCounts modLane
  rw [lane_setLane_same, setLane_setLane]

theorem giveShadow_eq (s : State) (l : LaneId) (i : Item) : s.giveShadow l i = s.setLane l { s.lane l with
    verdicts := (s.lane l).verdicts ++ [(i, .shadow)]
    counts := { (s.lane l).counts with shadows := (s.lane l).counts.shadows + 1 } } := returnVerdict_modCounts ..

theorem givePass_eq (s : State) (j : Judgement) : s.givePass j =
    (s.modJudgement j.item fun e => { e with stage := .done, verdict := some .pass }).setLane j.owner { s.lane j.owner with
      verdicts := (s.lane j.owner).verdicts ++ [(j.item, .pass)]
      counts := { (s.lane j.owner).counts with passes := (s.lane j.owner).counts.passes + 1 } } := by
  unfold givePass
  exact returnVerdict_modCounts ..

theorem giveStray_eq (s : State) (j : Judgement) : s.giveStray j =
    (s.modJudgement j.item fun e => { e with stage := .done, verdict := some .stray }).setLane j.owner { s.lane j.owner with
      verdicts := (s.lane j.owner).verdicts ++ [(j.item, .stray)]
      counts := { (s.lane j.owner).counts with strays := (s.lane j.owner).counts.strays + 1 } } := by
  unfold giveStray
  exact returnVerdict_modCounts ..

end State

/-! ## A raising seen from the ends of its step -/

/-- A raising does not turn on what of the state before it the log, the time, the settings and the notices leave. -/
theorem Raised.of_before {s s' t : State} {a : AlarmRecord} (raised : Raised s' t a) (log : s'.log = s.log)
    (time : s'.hallTime = s.hallTime) (settings : (s'.lane a.lane).settings = (s.lane a.lane).settings)
    (link : s'.link = s.link) : Raised s t a := by
  unfold Raised at *
  rwa [log, time, settings, link] at raised

theorem Raised.driven {s t : State} {a : AlarmRecord} (raised : Raised s t a) : Raised s t.drive a := by
  unfold Raised at *
  rwa [State.drive_log, State.drive_link]

theorem Raised.last {s t : State} {a : AlarmRecord} (raised : Raised s t a) : t.log.records.getLast? = some a := by
  obtain ⟨kept, log, -⟩ := raised
  rw [log]
  exact List.getLast?_concat

/-- From `s` to `t` the judgement `j` has ended with a verdict of ALARM, for which the record `a` has been raised. -/
structure Alarmed (s t : State) (j : Judgement) (unverified : Bool) (a : AlarmRecord) : Prop where
  raised : Raised s t a
  found : t.findJudgement j.item = some { j with stage := .done, verdict := some .alarm, alarmNumber := some a.number }
  lane : a.lane = j.owner
  item : a.item = j.item
  raw : a.raw = j.raw
  cls : a.cls = alarmClassOf j.reason
  unverified : a.unverified = unverified
  verdicts : (t.lane j.owner).verdicts = (s.lane j.owner).verdicts ++ [(j.item, .alarm)]
  counts : (t.lane j.owner).counts = { (s.lane j.owner).counts with alarms := (s.lane j.owner).counts.alarms + 1 }
  awaited : (t.lane j.owner).awaited = (s.lane j.owner).awaited
  results : (t.lane j.owner).results = (s.lane j.owner).results

theorem State.giveAlarm_alarmed {s : State} {j : Judgement} (found : s.findJudgement j.item = some j) (unverified : Bool) :
    ∃ a, Alarmed s (s.giveAlarm j unverified) j unverified a := by
  let raising : Raising :=
    { lane := j.owner, item := j.item, raw := j.raw, cls := alarmClassOf j.reason, unverified := unverified }
  obtain ⟨a, raised, number, lane, item, raw, cls, mark⟩ := s.raiseAlarm_raised raising
  have stands : (s.raiseAlarm raising).findJudgement j.item = some j := by
    unfold State.findJudgement
    rw [State.raiseAlarm_judge]
    exact found
  have ended := State.findJudgement_modJudgement stands
    (fun e => { e with stage := .done, verdict := some .alarm, alarmNumber := some s.makeLogRoom.nextNumber }) fun _ => rfl
  refine ⟨a, ?_⟩
  rw [State.giveAlarm_eq]
  refine ⟨raised, ?_, lane, item, raw, cls, mark, ?_, ?_, ?_, ?_⟩
  · rw [number]
    exact ended
  all_goals rw [State.lane_setLane_same]

theorem Alarmed.driven {s t : State} {j : Judgement} {unverified : Bool} {a : AlarmRecord} (alarmed : Alarmed s t j unverified a) :
    Alarmed s t.drive j unverified a := by
  obtain ⟨raised, found, lane, item, raw, cls, mark, verdicts, counts, awaited, results⟩ := alarmed
  refine ⟨raised.driven, ?_, lane, item, raw, cls, mark, ?_, ?_, ?_, ?_⟩ <;> simpa

namespace State

variable {s : State} {l : LaneId} {i : Item}

/-! ## What each command comes to -/

theorem exec_passage {raw : Option Item} {cls : ItemClass} {rest : List TrackerMessage}
    (waiting : (s.lane l).toJudge = .leaving i raw cls :: rest) : exec (.passage l) s =
    .next ((s.setLane l { s.lane l with toJudge := rest }).takePassage l i raw cls).drive := by
  show execPassage l s = _
  unfold execPassage
  rw [waiting]
  rfl

theorem exec_passageRemovalReport {rest : List TrackerMessage} (waiting : (s.lane l).toJudge = .removed i :: rest) :
    exec (.passageRemovalReport l) s = .next
      ((s.setLane l { s.lane l with toJudge := rest }).removeJudgements fun j => j.item == i && j.owner == l).drive := by
  show execPassageRemovalReport l s = _
  unfold execPassageRemovalReport
  rw [waiting]
  rfl

/-- The judgement unit has taken a live answer of an item, which leaves the asking queue. -/
def answerTaken (s : State) (i : Item) (rest : List TableMessage) : State :=
  { s with judge := { s.judge with inbox := rest, answer := none, asking := s.judge.asking.filter fun k => k != i } }

theorem exec_judgeAnswer_of_live {a : JudgeAnswer} {rest : List TableMessage} (waiting : s.judge.inbox = .answer i a :: rest)
    (live : s.judge.answer = some (i, true)) :
    exec .judgeAnswer s = .next (((s.answerTaken i rest).actOnAnswer i a).offerJudge.drive) := by
  show execJudgeAnswer s = _
  unfold execJudgeAnswer takeAnswer
  rw [waiting]
  dsimp only
  rw [if_pos (by simpa using live)]
  rfl

theorem exec_judgeAnswer_of_discarded {a : JudgeAnswer} {rest : List TableMessage} (waiting : s.judge.inbox = .answer i a :: rest)
    (discarded : s.judge.answer ≠ some (i, true)) :
    exec .judgeAnswer s = .next ({ s with judge := { s.judge with inbox := rest, answer := none } }.offerJudge.drive) := by
  show execJudgeAnswer s = _
  unfold execJudgeAnswer takeAnswer
  rw [waiting]
  dsimp only
  rw [if_neg (by simpa using discarded)]

theorem exec_changeNotice {k : ChangeKind} {rest : List TableMessage} (waiting : s.judge.inbox = .notice i k :: rest) :
    exec .changeNotice s = .next ((({ s with judge := { s.judge with inbox := rest } } : State).takeNotice i k).drive) := by
  show execChangeNotice s = _
  unfold execChangeNotice
  rw [waiting]

theorem exec_graceEnd {j : Judgement} (found : s.findJudgement i = some j) (held : j.stage = .heldAbsent) {e : Time}
    (ends : j.graceEnd = some e) (reached : e ≤ s.hallTime) : exec (.graceEnd i) s = .next (s.verify i).drive := by
  show execGraceEnd i s = _
  unfold execGraceEnd
  rw [found]
  simp [held, ends, reached]

theorem exec_probeResult {r : ProbeResult} {results : List ProbeResult} (waiting : (s.lane l).results = r :: results) :
    exec (.probeResult l) s = .next
      (if r.live then (s.setLane l { s.lane l with results := results }).actOnProbe r.item r.outcome
        else s.setLane l { s.lane l with results := results }).drive := by
  show execProbeResult l s = _
  unfold execProbeResult takeProbeResult
  rw [waiting]
  rfl

end State

end Sys2Proof.Machine

/-! # Removal reports and probe results, settled -/

namespace Sys2Proof.Machine

namespace State

/-! ## The judgement that a removal report removes (07 R145) -/

/-- An item's judgement is removed exactly where it is the item reported and the reporting lane owns it. -/
theorem removed_any (s : State) (l : LaneId) (i k : Item) :
    (s.judge.entries.any fun j => j.item == k && (j.item == i && j.owner == l)) =
      decide ((∃ j ∈ s.judge.entries, j.item = i ∧ j.owner = l) ∧ k = i) := by
  rw [Bool.eq_iff_iff]
  simp only [List.any_eq_true, Bool.and_eq_true, beq_iff_eq, decide_eq_true_eq]
  constructor
  · rintro ⟨j, mem, rfl, item, owner⟩
    exact ⟨⟨j, mem, item, owner⟩, item⟩
  · rintro ⟨⟨j, mem, item, owner⟩, rfl⟩
    exact ⟨j, mem, item, item, owner⟩

/-- The judgement unit and its claim with the judgement of an item that a lane owns removed, before the next claim is offered. -/
def withoutJudgement (s : State) (l : LaneId) (i : Item) : State :=
  let removed := ∃ j ∈ s.judge.entries, j.item = i ∧ j.owner = l
  { s with
    judge := { s.judge with
      entries := s.judge.entries.filter fun j => !decide (j.item = i ∧ j.owner = l)
      asking := if removed then s.judge.asking.filter fun k => decide (k ≠ i) else s.judge.asking
      answer := s.judge.answer.map fun a => (a.1, a.2 && !decide (removed ∧ a.1 = i)) }
    port := { s.port with judge :=
      if removed then s.port.judge.filter fun c => decide (c.1 ≠ i) else s.port.judge } }

theorem removeJudgements_of_lane (s : State) (l : LaneId) (i : Item) :
    s.removeJudgements (fun j => j.item == i && j.owner == l) = (s.withoutJudgement l i).offerJudge := by
  have kept : (s.judge.entries.filter fun j => !(j.item == i && j.owner == l)) =
      s.judge.entries.filter fun j => !decide (j.item = i ∧ j.owner = l) :=
    List.filter_congr fun j _ => by rw [Bool.decide_and]; rfl
  unfold removeJudgements withoutJudgement
  simp only [removed_any, kept]
  by_cases removed : ∃ j ∈ s.judge.entries, j.item = i ∧ j.owner = l
  · simp only [removed, true_and, if_true, decide_not]
  · simp only [removed, false_and, if_false, decide_false, Bool.not_false, List.filter_true]
    cases s.port.judge <;> rfl

/-! ## A live probe result (07 R141) -/

theorem actOnProbe_of_notSeen {s : State} {i : Item} {j : Judgement} (found : s.findJudgement i = some j) :
    s.actOnProbe i .notSeen = s.giveStray j := by
  unfold actOnProbe
  rw [found]

theorem actOnProbe_of_seen {s : State} {i : Item} {j : Judgement} (found : s.findJudgement i = some j) {o : ProbeOutcome}
    (seen : o ≠ .notSeen) : s.actOnProbe i o = s.giveAlarm j (decide (o = .failed)) := by
  unfold actOnProbe
  rw [found]
  cases o with
  | seen | failed => rfl
  | notSeen => exact absurd rfl seen

end State

end Sys2Proof.Machine

namespace Sys2Proof.Proofs

open Sys2Proof Sys2Proof.Machine Sys2Proof.Machine.State

/-- Settles O49: the report removes as `withoutJudgement` has it, and the offer after it writes the claim alone. -/
theorem removalReportsDropTheLanesJudgement : Obligations.RemovalReportsDropTheLanesJudgement := by
  unfold Obligations.RemovalReportsDropTheLanesJudgement
  intro s l i rest waiting
  let u := s.setLane l { s.lane l with toJudge := rest }
  let v := u.withoutJudgement l i
  have ran : exec (.passageRemovalReport l) s = .next v.offerJudge.drive := by
    rw [exec_passageRemovalReport waiting, removeJudgements_of_lane]
  have lane (m : LaneId) : OutputsOnly (u.lane m) (v.offerJudge.drive.lane m) := by
    have driven := drive_lane v.offerJudge m
    rwa [offerJudge_lane] at driven
  have own : u.lane l = { s.lane l with toJudge := rest } := lane_setLane_same ..
  refine ⟨v.offerJudge.drive, ran, ?_, ?_, ?_, ?_, ?_, ?_, fun m other => ?_, ?_⟩
  · rw [lane l, own]
  · rw [drive_judge, offerJudge_judge]
    rfl
  · rw [drive_judge, offerJudge_judge]
    rfl
  · exact (JudgingOnly.trans (t := v) rfl (judgingOnly_offerJudge v)).trans (judgingOnly_drive _)
  · rw [drive_log, offerJudge_log]
    rfl
  · rw [drive_judge, drive_port, offerJudge_judge, offerJudge_eq]
    refine ⟨rfl, rfl, ?_⟩
    simp only [drive_findJudgement]
    have answer : v.judge.answer = none ↔ s.judge.answer = none := Option.map_eq_none_iff
    exact if_congr (and_congr Iff.rfl answer) rfl rfl
  · have same : u.lane m = s.lane m := lane_setLane_other _ _ other
    rw [← same]
    exact lane m
  · rw [← own]
    exact lane l

/-- Settles O48: a result that is not live changes nothing more, and a live one gives STRAY or raises the alarm that `Alarmed`
describes. -/
theorem probeResultsEndVerification : Obligations.ProbeResultsEndVerification := by
  unfold Obligations.ProbeResultsEndVerification
  intro s l r results waiting
  have ran := exec_probeResult waiting
  refine ⟨fun ignored => ?_, fun live j found owner => ?_⟩
  · rw [ran, ignored]
    rfl
  subst owner
  let u := s.setLane j.owner { s.lane j.owner with results := results }
  have item : j.item = r.item := findJudgement_item found
  have taken : JudgingOnly s u := (lanesOnly_setLane ..).judging
  have own : u.lane j.owner = { s.lane j.owner with results := results } := lane_setLane_same ..
  rw [ran, if_pos live]
  by_cases unseen : r.outcome = .notSeen
  · have lane : ((u.giveStray j).lane j.owner) = { u.lane j.owner with
        verdicts := (u.lane j.owner).verdicts ++ [(j.item, .stray)]
        counts := { (u.lane j.owner).counts with strays := (u.lane j.owner).counts.strays + 1 } } := by
      rw [giveStray_eq, lane_setLane_same]
    rw [unseen, actOnProbe_of_notSeen (s := u) found]
    refine ⟨(u.giveStray j).drive, rfl, ?_, ?_, (taken.trans (judgingOnly_giveStray u j)).trans (judgingOnly_drive _),
      fun _ => ⟨?_, ?_, ?_, ?_⟩, fun seen => absurd rfl seen⟩
    · rw [drive_results, lane, own]
    · rw [drive_awaited, lane, own]
    · have ended := findJudgement_modJudgement (s := u) found
        (fun e => { e with stage := .done, verdict := some .stray }) fun _ => rfl
      rw [← item] at ended
      rw [drive_findJudgement, giveStray_eq, ← item]
      exact ended
    · rw [drive_log]
      rfl
    · rw [drive_verdicts, lane, own, item]
    · rw [drive_counts, lane, own]
  · let unverified := decide (r.outcome = .failed)
    obtain ⟨n, alarmed⟩ := giveAlarm_alarmed (s := u) (item ▸ found) unverified
    have driven := alarmed.driven
    have raised : Raised s (u.giveAlarm j unverified).drive n :=
      driven.raised.of_before rfl rfl (by rw [driven.lane, own]) rfl
    obtain ⟨-, -, -, -, -, -, time, -, opened, -, -, notices, -⟩ := id raised
    rw [actOnProbe_of_seen (s := u) found unseen]
    refine ⟨_, rfl, ?_, ?_, (taken.trans (judgingOnly_giveAlarm u j _)).trans (judgingOnly_drive _),
      fun stray => absurd stray unseen, fun _ => ⟨n, raised.last, ?_, driven.lane, driven.item.trans item, driven.raw,
        driven.unverified, time, opened, raised, fun why reason => ?_, ?_, ?_, ?_⟩⟩
    · rw [driven.results, own]
    · rw [driven.awaited, own]
    · rw [← item]
      exact driven.found
    · rw [driven.cls, reason]
      cases why <;> rfl
    · rw [driven.verdicts, own, item]
    · rw [driven.counts, own]
    · rw [notices]

end Sys2Proof.Proofs

/-! # Passages taken by the judgement unit, settled -/

namespace Sys2Proof.Machine.State

variable {s : State} {l : LaneId} {i : Item} {raw : Option Item} {cls : ItemClass} {j : Judgement}

/-! ## A passage of an item with no judgement (07 R127) -/

theorem findJudgement_eq_none_iff (s : State) (i : Item) :
    s.findJudgement i = none ↔ ∀ j ∈ s.judge.entries, j.item ≠ i := by
  simp [findJudgement]

theorem takePassage_of_exempt (free : s.findJudgement i = none) (passed : cls = .exempt ∨ cls = .staff) :
    s.takePassage l i raw cls =
      (s.setLane l { s.lane l with
        verdicts := (s.lane l).verdicts ++ [(i, .exempt)]
        counts := { (s.lane l).counts with exemptPasses := (s.lane l).counts.exemptPasses + 1 } }).addJudgement
        { newJudgement l i raw cls .done with verdict := some .exempt } := by
  unfold takePassage
  rw [free]
  rcases passed with rfl | rfl
  all_goals exact returnVerdict_modCounts ..

theorem takePassage_of_asking (free : s.findJudgement i = none) (asks : cls = .lending ∨ cls = .restricted) :
    s.takePassage l i raw cls = (s.addJudgement (newJudgement l i raw cls .asking)).joinAsking i := by
  unfold takePassage
  rw [free]
  rcases asks with rfl | rfl
  all_goals rfl

theorem takePassage_of_reference (free : s.findJudgement i = none) : s.takePassage l i raw .reference =
    (s.addJudgement { newJudgement l i raw .reference .verifying with reason := some .reference }).verify i := by
  unfold takePassage
  rw [free]

/-! ## A passage that meets another lane's judgement (07 R128, R129) -/

theorem seenMoreOutside_iff (s : State) (l : LaneId) (j : Judgement) : s.seenMoreOutside l j = true ↔
    ∃ mine theirs, s.findPassage l j.item = some mine ∧ s.findPassage j.owner j.item = some theirs
      ∧ theirs.outerTally < mine.outerTally := by
  unfold seenMoreOutside
  cases s.findPassage l j.item with
  | none => simp
  | some mine => cases s.findPassage j.owner j.item <;> simp

theorem takesOver_iff (s : State) (l : LaneId) (cls : ItemClass) (j : Judgement) : s.takesOver l cls j = true ↔
    j.stage ≠ .done ∧ cls = j.cls ∧ s.seenMoreOutside l j = true := by
  simp [takesOver, and_assoc]

theorem takePassage_of_shadowed (found : s.findJudgement i = some j) (shadowed : s.takesOver l cls j = false) :
    s.takePassage l i raw cls = s.giveShadow l i := by
  unfold takePassage
  rw [found]
  dsimp only
  rw [shadowed]
  rfl

theorem takePassage_of_takesOver (found : s.findJudgement i = some j) (takes : s.takesOver l cls j = true) :
    s.takePassage l i raw cls = s.handOver l raw j := by
  unfold takePassage
  rw [found]
  dsimp only
  rw [takes]
  rfl

/-- The judgement is the new owner's, and the old owner's passage is shadowed. -/
def movedTo (s : State) (l : LaneId) (raw : Option Item) (j : Judgement) : State :=
  (s.modJudgement j.item fun e => { e with owner := l, raw := raw }).giveShadow j.owner j.item

theorem movedTo_eq (s : State) (l : LaneId) (raw : Option Item) (j : Judgement) : s.movedTo l raw j =
    (s.modJudgement j.item fun e => { e with owner := l, raw := raw }).setLane j.owner { s.lane j.owner with
      verdicts := (s.lane j.owner).verdicts ++ [(j.item, .shadow)]
      counts := { (s.lane j.owner).counts with shadows := (s.lane j.owner).counts.shadows + 1 } } := giveShadow_eq ..

theorem handOver_of_verifying (verifying : j.stage = .verifying) :
    s.handOver l raw j = ((s.movedTo l raw j).ignoreProbe j.owner j.item).verify j.item := by
  unfold handOver
  rw [verifying]
  rfl

/-- A handover of a judgement that is not verified carries a waiting claim of an asking one along, and does nothing more. -/
theorem handOver_of_not_verifying (still : j.stage ≠ .verifying) : s.handOver l raw j =
    { s.movedTo l raw j with port := { s.port with
        judge := s.port.judge.map fun c => (c.1, if j.stage = .asking ∧ c.1 = j.item then l else c.2) } } := by
  unfold handOver
  cases stage : j.stage with
  | verifying => exact absurd stage still
  | asking =>
    have carried : (fun c : Item × LaneId => if c.1 = j.item then (c.1, l) else c) =
        fun c => (c.1, if True ∧ c.1 = j.item then l else c.2) := by
      funext c
      by_cases same : c.1 = j.item <;> simp [same]
    simp only [← carried]
    rfl
  | heldAbsent | heldPending | done =>
    simp
    rfl

theorem ignoreProbe_eq (s : State) (l : LaneId) (i : Item) : s.ignoreProbe l i = s.setLane l { s.lane l with
    awaited := (s.lane l).awaited.map fun r => if r.item = i then { r with live := false } else r
    results := (s.lane l).results.map fun r => if r.item = i then { r with live := false } else r } := by
  simp only [ignoreProbe, beq_iff_eq]
  rfl

end Sys2Proof.Machine.State

namespace Sys2Proof.Proofs

open Sys2Proof Sys2Proof.Machine Sys2Proof.Machine.State

/-- Settles O43: the passage's message is taken, and what it opens is read off by its class; the alarm of a REFERENCE
item is that of `giveAlarm`. -/
theorem passagesOpenJudgements : Obligations.PassagesOpenJudgements := by
  unfold Obligations.PassagesOpenJudgements
  intro s l i raw cls rest waiting unheld x opened
  let u := s.setLane l { x with toJudge := rest }
  have free : u.findJudgement i = none := (findJudgement_eq_none_iff s i).2 unheld
  have own : u.lane l = { x with toJudge := rest } := lane_setLane_same ..
  have ran : exec (.passage l) s = .next (u.takePassage l i raw cls).drive := exec_passage waiting
  rw [ran]
  refine ⟨fun passed => ?exempt, fun asks => ?asking, fun reference => ?reference, fun reference off => ?alarm⟩
  case exempt =>
    rw [takePassage_of_exempt free passed, own, setLane_setLane]
    rfl
  case asking =>
    rw [takePassage_of_asking free asks, joinAsking_eq]
    rfl
  case reference =>
    subst reference
    rw [takePassage_of_reference free]
    rfl
  case alarm =>
    subst reference
    let j : Judgement := { opened with stage := .verifying, reason := some .reference }
    let v := u.addJudgement j
    have found : v.findJudgement i = some j := findJudgement_addJudgement (j := j) free
    have lane : v.lane l = { x with toJudge := rest } := own
    have refused : ¬ ((v.lane j.owner).settings.verify = true ∧ v.acceptsProbe j.owner = true) := by
      rintro ⟨verifies, -⟩
      rw [show v.lane j.owner = _ from lane] at verifies
      exact Bool.false_ne_true (off.symm.trans verifies)
    have only : JudgingOnly s v := (lanesOnly_setLane ..).judging.trans (judgingOnly_addJudgement u j)
    obtain ⟨a, alarmed⟩ := giveAlarm_alarmed (s := v) (j := j) found true
    have driven := alarmed.driven
    have raised : Raised s (v.giveAlarm j true).drive a :=
      driven.raised.of_before rfl rfl (by rw [driven.lane, show v.lane j.owner = _ from lane]) rfl
    obtain ⟨-, -, -, -, -, -, time, -, isOpen, -, -, -, -⟩ := id raised
    have alarms : u.takePassage l i raw .reference = v.giveAlarm j true :=
      (takePassage_of_reference free).trans (verify_of_refused found refused)
    rw [alarms]
    exact ⟨_, a, rfl, driven.found, raised.last, driven.lane, driven.item, driven.raw, driven.cls, driven.unverified, time,
      isOpen, raised, (only.trans (judgingOnly_giveAlarm v j true)).trans (judgingOnly_drive _)⟩

/-- Settles O44: whether the passage takes the judgement over is read off the two passages, and the handover moves the judgement as
`movedTo` has it. -/
theorem passagesAreShadowedOrTakeOver : Obligations.PassagesAreShadowedOrTakeOver := by
  unfold Obligations.PassagesAreShadowedOrTakeOver
  intro s l i raw cls rest j waiting found other x greater takesOver
  obtain rfl := findJudgement_item found
  let u := s.setLane l { x with toJudge := rest }
  have own : u.lane l = { x with toJudge := rest } := lane_setLane_same ..
  have theirs : u.lane j.owner = s.lane j.owner := lane_setLane_other _ _ other
  have takesIff : u.takesOver l cls j = true ↔ takesOver := by
    rw [takesOver_iff, seenMoreOutside_iff]
    unfold findPassage
    rw [own, theirs]
  have ran : exec (.passage l) s = .next (u.takePassage l j.item raw cls).drive := exec_passage waiting
  rw [ran]
  refine ⟨fun stays => ?shadowed, fun takes still => ?moved, fun takes verifying => ?verified⟩
  case shadowed =>
    rw [takePassage_of_shadowed (s := u) found (Bool.eq_false_iff.2 fun takes => stays (takesIff.1 takes)), giveShadow_eq, own,
      setLane_setLane]
  case moved =>
    let v := u.movedTo l raw j
    let w : State := { v with port := { s.port with
      judge := s.port.judge.map fun c => (c.1, if j.stage = .asking ∧ c.1 = j.item then l else c.2) } }
    have moves : u.takePassage l j.item raw cls = w :=
      (takePassage_of_takesOver (s := u) found (takesIff.2 takes)).trans (handOver_of_not_verifying still)
    have written : v = _ := movedTo_eq u l raw j
    have old : w.lane j.owner = { s.lane j.owner with
        verdicts := (s.lane j.owner).verdicts ++ [(j.item, .shadow)]
        counts := { (s.lane j.owner).counts with shadows := (s.lane j.owner).counts.shadows + 1 } } := by
      show v.lane j.owner = _
      rw [written, lane_setLane_same, theirs]
    have new : w.lane l = { x with toJudge := rest } := by
      show v.lane l = _
      rw [written, lane_setLane_other _ _ other.symm]
      exact own
    have owned : w.findJudgement j.item = some { j with owner := l, raw := raw } :=
      findJudgement_modJudgement (s := u) found (fun e => { e with owner := l, raw := raw }) fun _ => rfl
    have only : JudgingOnly s w := rfl
    rw [moves]
    refine ⟨w.drive, rfl, ?_, ?_, ?_, ?_, fun k m claim => ?_, fun idle => ?_, ?_, ?_, ?_, only.trans (judgingOnly_drive w)⟩
    · rw [drive_findJudgement, owned]
    · rw [drive_verdicts, old]
    · rw [drive_counts, old]
    · rw [drive_toJudge, new]
    · rw [drive_port]
      show s.port.judge.map _ = _
      rw [claim]
      rfl
    · rw [drive_port]
      show s.port.judge.map _ = _
      rw [idle]
      rfl
    · rw [drive_judge]
      rfl
    · rw [drive_judge]
      rfl
    · rw [drive_log]
      rfl
  case verified =>
    rw [takePassage_of_takesOver (s := u) found (takesIff.2 takes), handOver_of_verifying verifying, movedTo_eq, ignoreProbe_eq,
      lane_setLane_same, setLane_setLane, theirs]
    simp only [modJudgement, beq_iff_eq]
    rfl

end Sys2Proof.Proofs

/-! # Answers, grace ends and change notices, settled -/

namespace Sys2Proof.Machine.State

variable {s : State} {i : Item} {j : Judgement}

/-! ## A live answer by its kind (07 R134 to R137) -/

theorem answerTaken_asking (s : State) (i : Item) (rest : List TableMessage) :
    (s.answerTaken i rest).judge.asking = s.judge.asking.filter fun k => decide (k ≠ i) :=
  List.filter_congr fun k _ => Bool.eq_iff_iff.2 (by simp)

/-- The grace end of a judgement whose item is absent: the one it has, or else the owner lane's grace from now (07 R136). -/
def graceEnds (s : State) (j : Judgement) : Time := j.graceEnd.getD (s.hallTime + (s.lane j.owner).settings.grace)

theorem actOnAnswer_pass (found : s.findJudgement i = some j) : s.actOnAnswer i .pass = s.givePass j := by
  unfold actOnAnswer
  rw [found]

theorem actOnAnswer_pending (found : s.findJudgement i = some j) : s.actOnAnswer i .pending = s.holdPending i := by
  unfold actOnAnswer
  rw [found]
  rfl

theorem actOnAnswer_wrongLane (found : s.findJudgement i = some j) :
    s.actOnAnswer i .wrongLane = (s.modJudgement i fun e => { e with reason := some .wrongLane }).verify i := by
  unfold actOnAnswer
  rw [found]

/-- The judgement is held on an absent entry until a grace end. -/
def holdAbsent (s : State) (i : Item) (ends : Time) : State :=
  s.modJudgement i fun e => { e with stage := .heldAbsent, reason := some .absent, graceEnd := some ends }

theorem actOnAnswer_absent (found : s.findJudgement i = some j) : s.actOnAnswer i .absent =
    if s.graceEnds j ≤ s.hallTime then (s.holdAbsent i (s.graceEnds j)).verify i else s.holdAbsent i (s.graceEnds j) := by
  unfold actOnAnswer
  rw [found]
  rfl

/-! ## A change notice by stage and kind (07 R138) -/

theorem takeNotice_of_none {k : ChangeKind} (none : s.findJudgement i = none) : s.takeNotice i k = s := by
  unfold takeNotice
  rw [none]

/-- The owner lane of a judgement whose probe, if it is verified, has its live record ignored. -/
def probeIgnored (s : State) (j : Judgement) : Lane :=
  let x := s.lane j.owner
  if j.stage = .verifying then
    { x with awaited := x.awaited.map fun r => if r.item = j.item then { r with live := false } else r
             results := x.results.map fun r => if r.item = j.item then { r with live := false } else r }
  else x

theorem setLane_probeIgnored_of_verifying (verifying : j.stage = .verifying) :
    s.setLane j.owner (s.probeIgnored j) = s.ignoreProbe j.owner j.item := by
  rw [ignoreProbe_eq, probeIgnored, if_pos verifying]

theorem setLane_probeIgnored_of_held (held : j.stage = .heldAbsent ∨ j.stage = .heldPending) :
    s.setLane j.owner (s.probeIgnored j) = s := by
  have still : j.stage ≠ .verifying := by rcases held with held | held <;> simp [held]
  rw [probeIgnored, if_neg still, setLane_lane]

theorem takeNotice_cleared (found : s.findJudgement i = some j) (cls : j.cls ≠ .reference)
    (stage : j.stage = .heldAbsent ∨ j.stage = .heldPending ∨ j.stage = .verifying) :
    s.takeNotice i .cleared = (s.setLane j.owner (s.probeIgnored j)).askAgain i := by
  obtain rfl := findJudgement_item found
  unfold takeNotice
  rw [found]
  dsimp only
  rw [if_neg (by simpa using cls)]
  rcases stage with stage | stage | stage
  · rw [setLane_probeIgnored_of_held (.inl stage), stage]
  · rw [setLane_probeIgnored_of_held (.inr stage), stage]
  · rw [setLane_probeIgnored_of_verifying stage, stage]

theorem takeNotice_pending (found : s.findJudgement i = some j) (cls : j.cls ≠ .reference)
    (stage : j.stage = .heldAbsent ∨ j.stage = .verifying) :
    s.takeNotice i .pending = (s.setLane j.owner (s.probeIgnored j)).holdPending i := by
  obtain rfl := findJudgement_item found
  unfold takeNotice
  rw [found]
  dsimp only
  rw [if_neg (by simpa using cls)]
  rcases stage with stage | stage
  · rw [setLane_probeIgnored_of_held (.inl stage), stage]
  · rw [setLane_probeIgnored_of_verifying stage, stage]

theorem takeNotice_pendingGone (found : s.findJudgement i = some j) (cls : j.cls ≠ .reference) (stage : j.stage = .heldPending) :
    s.takeNotice i .pendingGone = s.verify i := by
  unfold takeNotice
  rw [found]
  dsimp only
  rw [if_neg (by simpa using cls), stage]

/-- Every other notice has no effect. -/
theorem takeNotice_idle {k : ChangeKind} (found : s.findJudgement i = some j)
    (idle : j.cls = .reference ∨ j.stage = .asking ∨ j.stage = .done ∨ (k = .pendingGone ∧ j.stage ≠ .heldPending)
      ∨ (k = .pending ∧ j.stage = .heldPending)) : s.takeNotice i k = s := by
  unfold takeNotice
  rw [found]
  dsimp only
  split
  · rfl
  next cls =>
    rcases idle with reference | stage | stage | ⟨rfl, stage⟩ | ⟨rfl, stage⟩
    · exact absurd (beq_iff_eq.2 reference) cls
    · rw [stage]
    · rw [stage]
    · cases held : j.stage with
      | heldPending => exact absurd held stage
      | asking | heldAbsent | verifying | done => rfl
    · rw [stage]

end Sys2Proof.Machine.State

namespace Sys2Proof.Proofs

open Sys2Proof Sys2Proof.Machine Sys2Proof.Machine.State

/-- Settles O45: a live answer writes its judgement and perhaps the owner's verdict, or sends it to verification, and the offer
after it writes the claim alone. -/
theorem answersAndGraceEndsMoveJudgements : Obligations.AnswersAndGraceEndsMoveJudgements := by
  unfold Obligations.AnswersAndGraceEndsMoveJudgements
  refine ⟨?moves, fun s i j found => ⟨fun held e graceEnd reached => exec_graceEnd found held graceEnd reached, ?verified⟩,
    fun s i a rest waiting discarded => exec_judgeAnswer_of_discarded waiting discarded,
    fun s => ⟨fun out => ?out, fun waits answer => ?offered⟩⟩
  case moves =>
    intro s i a rest j waiting live found ends becomes
    obtain rfl := findJudgement_item found
    let u := s.answerTaken j.item rest
    -- An answer that keeps the owners writes its judgement and the owner's lane.
    have written {f : Judgement → Judgement} {x : Lane} (keeps : ∀ e, (f e).item = e.item ∧ (f e).owner = e.owner)
        (acts : u.actOnAnswer j.item a = (u.modJudgement j.item f).setLane j.owner x)
        (verdicts : x.verdicts = (s.lane j.owner).verdicts ++ (if (f j).stage = .done then [(j.item, .pass)] else []))
        (passes : x.counts.passes = (s.lane j.owner).counts.passes + (if (f j).stage = .done then 1 else 0)) : becomes (f j) := by
      let v := (u.modJudgement j.item f).setLane j.owner x
      have ran : exec .judgeAnswer s = .next v.offerJudge.drive := by rw [exec_judgeAnswer_of_live waiting live, acts]
      have own : (v.offerJudge.drive.lane j.owner).verdicts = x.verdicts
          ∧ (v.offerJudge.drive.lane j.owner).counts = x.counts := by
        rw [drive_verdicts, drive_counts, offerJudge_lane, lane_setLane_same]
        exact ⟨rfl, rfl⟩
      have asking : v.judge.asking = s.judge.asking.filter fun k => decide (k ≠ j.item) := answerTaken_asking s j.item rest
      have front : v.frontClaim = (s.judge.asking.filter fun k => decide (k ≠ j.item)).head?.bind fun k =>
          (s.findJudgement k).map fun n => (k, n.owner) := by
        rw [← asking]
        exact frontClaim_modJudgement u j.item keeps
      refine ⟨_, ran, ?_, ?_, ?_, ?_, ?_, ?_, ?_, ?_, ?_⟩
      · rw [drive_findJudgement, offerJudge_findJudgement]
        exact findJudgement_modJudgement (s := u) found f fun e => (keeps e).1
      · rw [drive_judge, offerJudge_judge, asking]
      · rw [drive_port, offerJudge_eq, front]
        exact if_congr (and_iff_left rfl) rfl rfl
      · rw [drive_judge, offerJudge_judge]
        rfl
      · rw [drive_judge, offerJudge_judge]
        rfl
      · rw [drive_log, offerJudge_log]
        rfl
      · exact (JudgingOnly.trans (t := v) rfl (judgingOnly_offerJudge v)).trans (judgingOnly_drive _)
      · rw [own.1, verdicts]
      · rw [own.2, passes]
    have stays {f : Judgement → Judgement} (keeps : ∀ e, (f e).item = e.item ∧ (f e).owner = e.owner)
        (acts : u.actOnAnswer j.item a = u.modJudgement j.item f) (undecided : (f j).stage ≠ .done) : becomes (f j) :=
      written keeps (x := s.lane j.owner) (acts.trans (setLane_lane ..).symm) (by simp [undecided]) (by simp [undecided])
    refine ⟨?_, ?_, ?_⟩
    · rintro rfl
      exact written (f := fun e => { e with stage := .done, verdict := some .pass }) (fun _ => ⟨rfl, rfl⟩)
        ((actOnAnswer_pass (s := u) found).trans (givePass_eq ..)) rfl rfl
    · rintro rfl
      exact stays (f := fun e => { e with stage := .heldPending, reason := some .pending }) (fun _ => ⟨rfl, rfl⟩)
        (actOnAnswer_pending (s := u) found) (by simp)
    · rintro rfl early
      have runs : ¬ u.graceEnds j ≤ u.hallTime := Nat.not_le.2 early
      exact stays (f := fun e => { e with stage := .heldAbsent, reason := some .absent, graceEnd := some ends })
        (fun _ => ⟨rfl, rfl⟩) ((actOnAnswer_absent (s := u) found).trans (if_neg runs)) (by simp)
  case verified =>
    intro a rest waiting live taken ends set
    refine ⟨?_, ?_⟩
    · rintro rfl
      rw [exec_judgeAnswer_of_live waiting live, actOnAnswer_wrongLane (s := s.answerTaken i rest) found]
      rfl
    · rintro rfl late
      have reached : (s.answerTaken i rest).graceEnds j ≤ (s.answerTaken i rest).hallTime := late
      rw [exec_judgeAnswer_of_live waiting live, actOnAnswer_absent (s := s.answerTaken i rest) found, if_pos reached]
      rfl
  case out =>
    rw [offerJudge_eq, if_neg fun free => out.elim (absurd free.1) (absurd free.2)]
  case offered =>
    rw [offerJudge_eq, if_pos ⟨waits, answer⟩]
    rfl

/-- Settles O47: each notice comes to its row of the table of stages and kinds. -/
theorem changeNoticesMoveJudgements : Obligations.ChangeNoticesMoveJudgements := by
  unfold Obligations.ChangeNoticesMoveJudgements
  intro s i k rest waiting u
  have ran : exec .changeNotice s = .next (u.takeNotice i k).drive := exec_changeNotice waiting
  refine ⟨fun none => by rw [ran, takeNotice_of_none (s := u) none], ?_⟩
  intro j found goes
  obtain rfl := findJudgement_item found
  let v := u.setLane j.owner (u.probeIgnored j)
  have taken : JudgingOnly s v := (JudgingOnly.trans (t := u) rfl (lanesOnly_setLane ..).judging)
  have own : v.lane j.owner = u.probeIgnored j := lane_setLane_same ..
  have ignored (verifying : j.stage = .verifying) :
      (u.probeIgnored j).awaited = (s.lane j.owner).awaited.map (fun r => if r.item = j.item then { r with live := false } else r)
        ∧ (u.probeIgnored j).results =
          (s.lane j.owner).results.map fun r => if r.item = j.item then { r with live := false } else r := by
    rw [probeIgnored, if_pos verifying]
    exact ⟨rfl, rfl⟩
  refine ⟨?cleared, ?pending, ?gone, ?idle⟩
  case cleared =>
    rintro cls rfl stage
    have asks : v.askAgain j.item = _ := joinAsking_eq ..
    have lane : (v.askAgain j.item).lane j.owner = u.probeIgnored j := by
      rw [asks]
      exact own
    refine ⟨(v.askAgain j.item).drive, by rw [ran, takeNotice_cleared (s := u) found cls stage], ?_, ?_, ?_, ?_,
      fun _ => ⟨?_, ?_⟩, fun other => absurd rfl other, ?_, fun verifying => ?_⟩
    · rw [drive_findJudgement, asks]
      exact findJudgement_modJudgement (s := u) found (fun e => { e with stage := .asking }) fun _ => rfl
    · rw [drive_judge, asks]
      rfl
    · exact (taken.trans (JudgingOnly.trans (judgingOnly_modJudgement ..) (judgingOnly_joinAsking ..))).trans (judgingOnly_drive _)
    · rw [drive_log, asks]
      rfl
    · rw [drive_judge, asks]
      rfl
    · simp only [drive_findJudgement]
      rw [drive_port, asks]
      rfl
    · rw [drive_judge, asks]
      rfl
    · rw [drive_awaited, drive_results, lane]
      exact ignored verifying
  case pending =>
    rintro cls rfl stage
    refine ⟨(v.holdPending j.item).drive, by rw [ran, takeNotice_pending (s := u) found cls stage], ?_, ?_, ?_, ?_,
      fun asks => ?_, fun _ => ⟨?_, ?_⟩, ?_, fun verifying => ?_⟩
    · rw [drive_findJudgement]
      exact findJudgement_modJudgement (s := u) found
        (fun e => { e with stage := .heldPending, reason := some .pending }) fun _ => rfl
    · rw [drive_judge]
      rfl
    · exact (taken.trans (judgingOnly_modJudgement ..)).trans (judgingOnly_drive _)
    · rw [drive_log]
      rfl
    · cases asks
    · rw [drive_judge]
      rfl
    · rw [drive_port]
      rfl
    · rw [drive_judge]
      rfl
    · rw [drive_awaited, drive_results, show (v.holdPending j.item).lane j.owner = _ from own]
      exact ignored verifying
  case gone =>
    rintro cls rfl stage
    rw [ran, takeNotice_pendingGone (s := u) found cls stage]
  case idle =>
    intro idle
    rw [ran, takeNotice_idle (s := u) found idle]

end Sys2Proof.Proofs

/-! # The alarm log -/

namespace Sys2Proof.Machine.State

variable {s : State} {p : PortId} {src : Source} {kind : Byte} {lane number : Nat} {after : Option Nat}

/-! ## The records after the one that a read names (08 R157) -/

theorem recordsAfter_append {older newer : List AlarmRecord} {r : AlarmRecord} (named : r.number.toNat = number)
    (first : ∀ x ∈ older, x.number.toNat ≠ number) : recordsAfter number (older ++ r :: newer) = some newer := by
  induction older with
  | nil => exact if_pos named
  | cons x older ih =>
    obtain ⟨other, first⟩ := List.forall_mem_cons.1 first
    exact (if_neg other).trans (ih first)

theorem recordsAfter_eq_none {rs : List AlarmRecord} (absent : ∀ r ∈ rs, r.number.toNat ≠ number) :
    recordsAfter number rs = none := by
  induction rs with
  | nil => rfl
  | cons r rs ih =>
    obtain ⟨other, absent⟩ := List.forall_mem_cons.1 absent
    exact (if_neg other).trans (ih absent)

theorem readAlarms_after_of_split {older newer : List AlarmRecord} {r : AlarmRecord}
    (records : s.log.records = older ++ r :: newer) (named : r.number.toNat = number)
    (first : ∀ x ∈ older, x.number.toNat ≠ number) : s.readAlarms (some number) = some (newer.take 8) := by
  rw [readAlarms, records, recordsAfter_append named first]
  rfl

theorem readAlarms_after_of_absent (absent : ∀ r ∈ s.log.records, r.number.toNat ≠ number) :
    s.readAlarms (some number) = none := by
  rw [readAlarms, recordsAfter_eq_none absent]
  rfl

theorem readAlarms_oldest (s : State) : s.readAlarms none = some (s.log.records.take 8) := rfl

/-! ## The records that the commands rewrite (08 R154, R155, R158) -/

theorem ackLaneRecords_eq (s : State) (l : LaneId) (src : Source) : s.ackLaneRecords l src =
    { s with log := { s.log with records := s.log.records.map fun r =>
        if r.lane = l ∧ r.state = .opened then { r with state := .acknowledged, closedAt := some s.hallTime, closedBy := some src }
        else r } } := by
  simp only [ackLaneRecords, setRecords, acknowledged, Bool.and_eq_true, beq_iff_eq]

theorem openRecordsOf_eq (s : State) (l : LaneId) :
    s.openRecordsOf l = s.log.records.countP fun r => decide (r.lane = l ∧ r.state = .opened) := by
  simp only [openRecordsOf, Bool.beq_eq_decide_eq, Bool.decide_and]

theorem clearClosed_eq (s : State) : s.clearClosed =
    { s with log := { s.log with records := s.log.records.filter fun r => decide (r.state = .opened) } } := rfl

/-! ## The commands of the log -/

theorem exec_ackLane (taken : s.workOf p = .taken src kind (.ackLane lane)) : exec (.ackLane p) s =
    .next (s.laneRequest p src kind lane fun l => (s.ackLaneRecords l src, countReply (s.openRecordsOf l))) := by
  show execAckLane p s = _
  unfold execAckLane serveAckLane
  rw [serve_of_taken taken]
  rfl

/-- ACK ALARM turns on an OPEN record of its number. -/
theorem exec_ackAlarm (taken : s.link.work = .taken .link kind (.ackAlarm number)) : exec .ackAlarm s = .next (
    if ∃ r ∈ s.log.records, r.number.toNat = number ∧ r.state = .opened then
      ((s.setRecords (s.log.records.map fun r => if r.number.toNat = number then acknowledged s.hallTime .link r else r)).replyOn
        .link kind (codeReply .done)).drive
    else s.replyOn .link kind (codeReply .noEntry)) := by
  show execAckAlarm s = _
  unfold execAckAlarm serveLink
  rw [serve_of_taken (p := .link) taken]
  simp only [List.any_eq_true, Bool.and_eq_true, beq_iff_eq]
  split <;> simp only [Option.getD_some, linkReply]

/-- READ ALARMS answers the records that it reads, or NO_ENTRY. -/
theorem exec_readAlarms (taken : s.link.work = .taken .link kind (.readAlarms after)) : exec .readAlarms s =
    .next (s.replyOn .link kind ((s.readAlarms after).elim (codeReply .noEntry) alarmsReply)) := by
  show execReadAlarms s = _
  unfold execReadAlarms serveLink
  rw [serve_of_taken (p := .link) taken]
  cases read : s.readAlarms after <;> simp only [read, Option.getD_some, Option.elim, linkReply]

theorem exec_clearLog (taken : s.link.work = .taken .link kind .clearLog) : exec .clearLog s =
    .next (s.clearClosed.replyOn .link kind (countReply (s.log.records.countP fun r => decide (r.state ≠ .opened)))) := by
  have closed : (fun r : AlarmRecord => r.state != .opened) = fun r => decide (r.state ≠ .opened) := by
    funext r
    simp [bne, Bool.beq_eq_decide_eq]
  show execClearLog s = _
  unfold execClearLog serveLink
  rw [serve_of_taken (p := .link) taken, ← closed]
  rfl

end Sys2Proof.Machine.State

/-! # The alarm log, settled -/

namespace Sys2Proof.Proofs

open Sys2Proof Sys2Proof.Machine Sys2Proof.Machine.State

/-- Settles O17: the lane's number is tested first, then the standing of the desk, and the log marks the lane's OPEN records. -/
theorem ackLaneAcknowledgesTheOpenRecords : Obligations.AckLaneAcknowledgesTheOpenRecords := by
  unfold Obligations.AckLaneAcknowledgesTheOpenRecords
  intro s p src kind lane taken standing
  refine ⟨fun high => ?_, fun low absent => ?_, fun l named present => ?_⟩
  · rw [exec_ackLane taken, laneRequest_of_high high]
  · have outside : s.inStanding src = false := by rwa [← Bool.not_eq_true, inStanding_iff]
    rw [exec_ackLane taken, laneRequest_of_no_standing low outside]
  · subst named
    rw [exec_ackLane taken, laneRequest_val l ((inStanding_iff s src).2 present), ackLaneRecords_eq, openRecordsOf_eq]

/-- Settles O50: ACK ALARM by whether an OPEN record has its number, READ ALARMS by where the log holds the number it names. -/
theorem alarmRecordsAreAcknowledgedReadAndCleared : Obligations.AlarmRecordsAreAcknowledgedReadAndCleared := by
  unfold Obligations.AlarmRecordsAreAcknowledgedReadAndCleared
  intro s kind
  refine ⟨fun n taken _ => ⟨fun opened => ?_, fun none => ?_⟩, fun after taken => ⟨?oldest, ?named⟩, fun taken => ?clear⟩
  · rw [exec_ackAlarm taken, if_pos opened]
    rfl
  · rw [exec_ackAlarm taken, if_neg fun ⟨r, mem, opened⟩ => none r mem opened]
  case oldest =>
    rintro rfl
    show exec .readAlarms s = _
    rw [exec_readAlarms taken, readAlarms_oldest]
    rfl
  case named =>
    rintro n rfl
    refine ⟨fun older r newer records named first => ?_, fun absent => ?_⟩
    · show exec .readAlarms s = _
      rw [exec_readAlarms taken, readAlarms_after_of_split records named first]
      rfl
    · rw [exec_readAlarms taken, readAlarms_after_of_absent absent]
      rfl
  case clear =>
    rw [exec_clearLog taken, clearClosed_eq]

end Sys2Proof.Proofs

/-! # The desk bus

What the desk bus port does in each of its states, and which requests the bytes of a frame spell on the two ports. -/

namespace Sys2Proof.Machine

/-! ## The straps (00 Resets, 09 R165, 10 R178) -/

/-- The straps reach two fields of the state and no other. -/
theorem State.afterPowerOn_eq (address rate : BitVec 2) : State.afterPowerOn address rate =
    { State.reset with
        desk := { State.reset.desk with address := 0x2C + address.setWidth 7 }
        link := { State.reset.link with rate := rate } } := rfl

theorem exec_powerOnReset (address rate : BitVec 2) (s : State) : exec (.powerOnReset address rate) s =
    .next { State.afterPowerOn address rate with freeReads := s.freeReads, pending := s.pending } := rfl

/-! ## The port's states (09 R166) -/

namespace DeskPort

variable {d : DeskPort} {address : BitVec 7} {direction : Direction} {b : Byte}

/-! ### Taking the request of the buffer (09 R168) -/

theorem source_of_byte (src : DeskId) : Source.ofNumber (BitVec.ofNat 8 (src.val + 1)).toNat = some (.desk src) := by
  have small : (BitVec.ofNat 8 (src.val + 1)).toNat = (Source.desk src).number := by
    rw [BitVec.toNat_ofNat, Nat.mod_eq_of_lt (by omega)]
    rfl
  rw [small, Source.ofNumber_number]

theorem request_of_empty (buffer : d.buffer = []) : d.request = none := by
  unfold request
  rw [buffer]

/-- A frame of its source byte alone has no kind. -/
theorem request_of_source {src : DeskId} (buffer : d.buffer = [BitVec.ofNat 8 (src.val + 1)]) :
    d.request = some (.desk src, 0, .bad) := by
  unfold request
  rw [buffer]
  dsimp only
  rw [source_of_byte]
  rfl

theorem request_of_kind {src : DeskId} {kind : Byte} {body : List Byte}
    (buffer : d.buffer = BitVec.ofNat 8 (src.val + 1) :: kind :: body) :
    d.request = some (.desk src, kind, if d.overlong then .bad else parseDeskRequest kind body) := by
  unfold request
  rw [buffer]
  dsimp only
  rw [source_of_byte]
  rfl

theorem take_of_request {src : Source} {kind : Byte} {r : Request} (request : d.request = some (src, kind, r)) : d.take =
    { d with state := .working, buffer := [], work := .taken src kind r, reply := [], supplied := 0, acked := true,
             dataOut := 0xFF, clockHeld := true } := by
  unfold take
  rw [request]

/-- Nothing is taken, and the reply BAD_REQUEST is already formed. -/
theorem take_of_empty (buffer : d.buffer = []) : d.take =
    { d with state := .working, buffer := [], work := .idle, reply := [17], supplied := 0, acked := true, dataOut := 0xFF,
             clockHeld := true } := by
  unfold take
  rw [request_of_empty buffer]
  rfl

/-! ### Address bytes (09 R165, R168, R169) -/

theorem takes_iff : d.takes address direction = true ↔ address = d.address ∧ direction = .read := by
  simp [takes]

theorem firstAddress_write (own : address = d.address) : d.firstAddress address .write = d.receive := if_pos own

theorem firstAddress_read (own : address = d.address) :
    d.firstAddress address .read = ({ d with buffer := [], overlong := false } : DeskPort).take := if_pos own

theorem firstAddress_other (other : address ≠ d.address) : d.firstAddress address direction = d.ignore := if_neg other

/-- Where no frame is being written or worked, an address byte begins one. -/
theorem addressByte_of_first (between : d.state = .idle ∨ d.state = .replying ∨ d.state = .spent) :
    d.addressByte address direction = d.firstAddress address direction := by
  unfold addressByte
  obtain state | state | state := between <;> rw [holdEnded_of_state (by simp [state])] <;> simp only [state]

theorem addressByte_of_ignoring (state : d.state = .ignoring) :
    d.addressByte address direction = { d with acked := false } := by
  unfold addressByte
  rw [holdEnded_of_state (by simp [state])]
  simp only [state]

theorem addressByte_of_takes (state : d.state = .receiving) (own : address = d.address) (read : direction = .read) :
    d.addressByte address direction = d.take := by
  unfold addressByte
  rw [holdEnded_of_state (by simp [state])]
  simp only [state, takes_iff.2 ⟨own, read⟩, if_true]

/-! ### The hold of a reply already formed (09 R171) -/

/-- A hold that has ended does not end again, so whatever the bus does next finds the port REPLYING. -/
theorem holdEnded_holdEnded (d : DeskPort) : d.holdEnded.holdEnded = d.holdEnded := by
  by_cases formed : d.replyFormed = true
  · rw [holdEnded_of_formed formed]
    exact holdEnded_of_state (by simp [replyWith])
  · have kept : d.holdEnded = d := if_neg formed
    rw [kept, kept]

theorem stopCondition_holdEnded (d : DeskPort) : d.holdEnded.stopCondition = d.stopCondition := by
  unfold stopCondition
  rw [holdEnded_holdEnded]

theorem replyByte_holdEnded (d : DeskPort) : d.holdEnded.replyByte = d.replyByte := by
  unfold replyByte
  rw [holdEnded_holdEnded]

theorem replyDeclined_holdEnded (d : DeskPort) : d.holdEnded.replyDeclined = d.replyDeclined := by
  unfold replyDeclined
  rw [holdEnded_holdEnded]

theorem addressByte_holdEnded (d : DeskPort) (address : BitVec 7) (direction : Direction) :
    d.holdEnded.addressByte address direction = d.addressByte address direction := by
  unfold addressByte
  rw [holdEnded_holdEnded]

/-- The hold ends with the first byte of the reply on the data line. -/
theorem holdEnded_eq (state : d.state = .working) (work : d.work = .idle) (reply : d.reply ≠ []) : d.holdEnded =
    { d with state := .replying, supplied := 1, dataOut := d.reply.headD 0, clockHeld := false } := by
  rw [holdEnded_of_formed ((replyFormed_iff d).2 ⟨state, work, reply⟩), replyWith, ← work]

/-! ### Written bytes (09 R167) -/

/-- The first byte is the source. -/
theorem writeByte_of_empty (state : d.state = .receiving) (buffer : d.buffer = []) : d.writeByte b =
    if 1 ≤ b.toNat ∧ b.toNat ≤ 15 then { d with buffer := [b], acked := true } else d.ignore := by
  unfold writeByte
  simp only [state, buffer, List.isEmpty_nil, if_true]

/-- Up to 46 bytes follow the source, and a longer frame is overlong. -/
theorem writeByte_of_source (state : d.state = .receiving) (buffer : d.buffer ≠ []) : d.writeByte b =
    if d.buffer.length < 47 then { d with buffer := d.buffer ++ [b], acked := true }
    else { d with overlong := true, acked := false } := by
  unfold writeByte
  simp only [state, List.isEmpty_eq_false_iff.2 buffer, Bool.false_eq_true, if_false, Config.deskBufferBytes]

/-! ### Stop conditions and reply bytes (09 R170, R173) -/

theorem stopCondition_of_receiving (state : d.state = .receiving) : d.stopCondition = d.abandon.stop := by
  unfold stopCondition
  rw [holdEnded_of_state (by simp [state])]
  simp only [state]

theorem stopCondition_of_frame (frame : d.state = .replying ∨ d.state = .spent ∨ d.state = .ignoring) :
    d.stopCondition = d.stop := by
  unfold stopCondition
  obtain state | state | state := frame <;> rw [holdEnded_of_state (by simp [state])] <;> simp only [state]

theorem replyByte_of_replying (state : d.state = .replying) : d.replyByte =
    { d with dataOut := d.reply.getD d.supplied 0, supplied := min d.reply.length (d.supplied + 1) } := by
  unfold replyByte
  rw [holdEnded_of_state (by simp [state])]
  simp only [state, satSucc]

theorem replyDeclined_of_replying (state : d.state = .replying) :
    d.replyDeclined = { d with state := .spent, dataOut := 0xFF } := by
  unfold replyDeclined
  rw [holdEnded_of_state (by simp [state])]
  simp only [state]

end DeskPort

/-! ## The commands of the desk bus: each changes the port alone -/

section
variable (s : State) (address : BitVec 7) (direction : Direction)

theorem exec_deskAddressByte : exec (.deskAddressByte address direction) s =
    .next { s with desk := s.desk.addressByte address direction } := rfl

theorem exec_deskWriteByte (b : Byte) : exec (.deskWriteByte b) s = .next { s with desk := s.desk.writeByte b } := rfl

theorem exec_deskStopCondition : exec .deskStopCondition s = .next { s with desk := s.desk.stopCondition } := rfl

theorem exec_deskReplyByte : exec .deskReplyByte s = .next { s with desk := s.desk.replyByte } := rfl

theorem exec_deskReplyDeclined : exec .deskReplyDeclined s = .next { s with desk := s.desk.replyDeclined } := rfl

variable {s address direction}

/-- A repeated start that does not take the request abandons it, and is then an address byte of its own. -/
theorem exec_deskRepeatedStartWrite (state : s.desk.state = .receiving)
    (kept : ¬ (address = s.desk.address ∧ direction = .read)) : exec (.deskRepeatedStartWrite address direction) s =
      .next { s with desk := s.desk.abandon.firstAddress address direction } := by
  have takes : s.desk.takes address direction = false := by rwa [← Bool.not_eq_true, DeskPort.takes_iff]
  show execDeskRepeatedStartWrite address direction s = _
  unfold execDeskRepeatedStartWrite State.modDesk
  simp only [state, takes, beq_self_eq_true, Bool.not_false, Bool.and_true, if_true, DeskPort.abandonAddress]

theorem exec_badRequest_of_formed (state : s.desk.state = .working) (work : s.desk.work = .idle) (reply : s.desk.reply ≠ []) :
    exec (.badRequest .desk) s = .next { s with desk := s.desk.holdEnded } := by
  have formed := (DeskPort.replyFormed_iff s.desk).2 ⟨state, work, reply⟩
  have hold : s.replyFormed .desk = true := formed
  show execBadRequest .desk s = _
  unfold execBadRequest
  rw [if_pos hold, DeskPort.holdEnded_of_formed formed]
  rfl

/-- What the bus does while a formed reply is held finds the hold ended. -/
theorem exec_of_holdEnded {c : Instr}
    (acts : c ∈ [Instr.deskStopCondition, .deskReplyByte, .deskReplyDeclined, .deskAddressByte address direction]) :
    exec c s = exec c { s with desk := s.desk.holdEnded } := by
  simp only [List.mem_cons, List.not_mem_nil, or_false] at acts
  obtain rfl | rfl | rfl | rfl := acts
  · simp only [exec_deskStopCondition, DeskPort.stopCondition_holdEnded]
  · simp only [exec_deskReplyByte, DeskPort.replyByte_holdEnded]
  · simp only [exec_deskReplyDeclined, DeskPort.replyDeclined_holdEnded]
  · simp only [exec_deskAddressByte, DeskPort.addressByte_holdEnded]

end

/-! ## Which bodies fit their kind (11 R197, R200) -/

theorem parseShared_ne_bad (kind : Nat) (body : List Byte) : parseShared kind body ≠ .bad ↔
    (kind = 1 ∨ kind = 2) ∧ FitsCount body 4 5 8 ∨ kind = 3 ∧ FitsCount body 1 5 8
      ∨ (kind = 4 ∨ kind = 7 ∨ kind = 8) ∧ FitsCount body 0 5 8 ∨ (kind = 14 ∨ kind = 15) ∧ body.length = 1 := by
  unfold parseShared
  split
  case h_1 | h_2 => simp [parseOptionsAndItems_ne_bad]
  case h_3 => simp [parseAllowanceAndItems_ne_bad]
  case h_4 | h_5 | h_6 => simp [parseCounted_ne_bad _ 8 5 parseItems parseItems_isSome]
  case h_7 | h_8 => simp [parseByte_ne_bad]
  case h_9 => simp_all

/-- The desk's own kinds are 5, 6, 12 and 13; every other kind is read as on both ports. -/
theorem parseDeskRequest_ne_bad (kind : Byte) (body : List Byte) : parseDeskRequest kind body ≠ .bad ↔
    parseShared kind.toNat body ≠ .bad ∨ kind.toNat = 13 ∧ body.length = 0
      ∨ (kind.toNat = 5 ∨ kind.toNat = 6) ∧ body.length = 2 ∨ kind.toNat = 12 ∧ body.length = 5 := by
  unfold parseDeskRequest
  split
  case h_1 five => simp [five, parseTwo_ne_bad, parseShared]
  case h_2 six => simp [six, parseTwo_ne_bad, parseShared]
  case h_3 twelve => simp [twelve, parseItem_ne_bad, parseShared]
  case h_4 thirteen => simp [thirteen, parseNothing_ne_bad, parseShared]
  case h_5 five six twelve thirteen => tauto

/-! ## The fields of the bodies that both ports have (11 R197) -/

/-- An item count and that many items, as a body spells them. -/
def countedBytes (items : List Item) : List Byte := BitVec.ofNat 8 items.length :: items.flatMap (beBytes 5)

/-- An item with no option of its own, as a desk's request brings it. -/
def RawItem.plain (i : Item) : RawItem := { item := i, allowance := 0, lanes := 0 }

section
variable {items : List Item} (nonempty : 1 ≤ items.length) (few : items.length ≤ 8) (fits : ∀ i ∈ items, i < 256 ^ 5)
include nonempty few fits

theorem countedItems_bytes :
    countedItems 8 parseItems (BitVec.ofNat 8 items.length) (items.flatMap (beBytes 5)) = some (items.map RawItem.plain) := by
  have count : (BitVec.ofNat 8 items.length).toNat = items.length := by
    rw [BitVec.toNat_ofNat, Nat.mod_eq_of_lt (by omega)]
  unfold countedItems
  rw [count, if_pos ⟨nonempty, few⟩]
  exact parseItems_bytes items fits

theorem parseCounted_bytes (k : ItemKind) : parseCounted k 8 parseItems (countedBytes items) =
    .items k { batch := 0, lanes := 0, allowance := 0 } (items.map RawItem.plain) := by
  unfold countedBytes parseCounted
  dsimp only
  rw [countedItems_bytes nonempty few fits]
  rfl

theorem parseAllowanceAndItems_bytes (k : ItemKind) (a : Byte) : parseAllowanceAndItems k (a :: countedBytes items) =
    .items k { batch := 0, lanes := 0, allowance := a.toNat } (items.map RawItem.plain) := by
  unfold countedBytes parseAllowanceAndItems
  dsimp only
  rw [countedItems_bytes nonempty few fits]
  rfl

theorem parseOptionsAndItems_bytes (k : ItemKind) (a : Byte) (lanes : LaneSet) {batch : Nat} (word : batch < 65536) :
    parseOptionsAndItems k (beBytes 2 batch ++ [lanes, a] ++ countedBytes items) =
      .items k { batch := batch, lanes := lanes, allowance := a.toNat } (items.map RawItem.plain) := by
  show itemRequest k { batch := beNat [BitVec.ofNat 8 (batch / 256 ^ 1), BitVec.ofNat 8 (batch / 256 ^ 0)], lanes := lanes,
                       allowance := a.toNat }
    (countedItems 8 parseItems (BitVec.ofNat 8 items.length) (items.flatMap (beBytes 5))) = _
  rw [beNat_two batch word, countedItems_bytes nonempty few fits]
  rfl

end

/-- The kinds that the two ports have in common are read alike on both. -/
theorem parse_of_shared {parse : Byte → List Byte → Request} (port : parse ∈ [parseDeskRequest, parseLinkRequest]) {kind : Byte}
    (shared : kind ∈ [1, 2, 3, 4, 7, 8, 14, 15]) (body : List Byte) : parse kind body = parseShared kind.toNat body := by
  simp only [List.mem_cons, List.not_mem_nil, or_false] at port shared
  obtain rfl | rfl := port
  · obtain rfl | rfl | rfl | rfl | rfl | rfl | rfl | rfl := shared <;> rfl
  · obtain rfl | rfl | rfl | rfl | rfl | rfl | rfl | rfl := shared <;> rfl

end Sys2Proof.Machine

/-! # The desk bus, settled -/

namespace Sys2Proof.Proofs

open Sys2Proof Sys2Proof.Machine

/-- Settles O5: the straps reach the desk bus address and the rate of the service link, and the queue and the counter are put back
as they were. -/
theorem powerOnResetReadsTheStraps : Obligations.PowerOnResetReadsTheStraps := by
  unfold Obligations.PowerOnResetReadsTheStraps
  intro address rate s
  rw [exec_powerOnReset, State.afterPowerOn_eq]

/-- Settles O55: the port by its state, then the requests by their kind. -/
theorem deskFramesAreReceivedAndReplied : Obligations.DeskFramesAreReceivedAndReplied := by
  unfold Obligations.DeskFramesAreReceivedAndReplied
  refine ⟨fun s => ⟨fun address direction => ⟨?first, ?followed, ?taken, ?abandoned⟩, ?formed, ?written, ?cut, ?ended, ?reply,
    ?declined⟩, ?bodies, fun a b c d e => ⟨rfl, rfl, rfl, rfl⟩, ?fields⟩
  case first =>
    intro between
    refine ⟨_, exec_deskAddressByte s address direction, ?_⟩
    rw [DeskPort.addressByte_of_first between]
    refine ⟨?write, ?read, DeskPort.firstAddress_other⟩
    case write =>
      rintro own rfl
      exact DeskPort.firstAddress_write own
    case read =>
      rintro own rfl
      rw [DeskPort.firstAddress_read own, DeskPort.take_of_empty rfl]
      exact ⟨⟨⟨rfl, rfl, rfl, rfl⟩, ⟨rfl, rfl, rfl, rfl⟩, rfl, rfl⟩, rfl⟩
  case followed =>
    intro ignoring
    exact ⟨_, exec_deskAddressByte s address direction, DeskPort.addressByte_of_ignoring ignoring⟩
  case taken =>
    intro receiving own read
    have answers := exec_deskAddressByte s address direction
    rw [DeskPort.addressByte_of_takes receiving own read] at answers
    refine ⟨fun empty => ⟨_, answers, ?_⟩, fun src => ⟨fun source => ⟨_, answers, ?_⟩, fun kind body frame => ⟨_, answers, ?_⟩⟩⟩
    · rw [DeskPort.take_of_empty empty]
      exact ⟨⟨rfl, rfl, rfl, rfl⟩, ⟨rfl, rfl, rfl, rfl⟩, rfl, rfl⟩
    · rw [DeskPort.take_of_request (DeskPort.request_of_source source)]
      exact ⟨⟨rfl, rfl, rfl, rfl⟩, ⟨rfl, rfl, rfl, rfl⟩, rfl, rfl⟩
    · rw [DeskPort.take_of_request (DeskPort.request_of_kind frame)]
      exact ⟨⟨rfl, rfl, rfl, rfl⟩, ⟨rfl, rfl, rfl, rfl⟩, rfl, rfl⟩
  case abandoned =>
    intro receiving kept
    refine ⟨_, exec_deskRepeatedStartWrite receiving kept, fun own => ?_, DeskPort.firstAddress_other (d := s.desk.abandon)⟩
    cases direction with
    | write => exact DeskPort.firstAddress_write (d := s.desk.abandon) own
    | read => exact absurd ⟨own, rfl⟩ kept
  case formed =>
    intro working idle reply
    have formed := DeskPort.holdEnded_eq working idle reply
    refine ⟨⟨_, exec_badRequest_of_formed working idle reply, formed⟩, fun c acts => ?_⟩
    rw [exec_of_holdEnded acts, formed]
  case written =>
    intro b receiving
    refine ⟨fun empty low high => ⟨_, exec_deskWriteByte s b, ?_⟩, fun empty named => ⟨_, exec_deskWriteByte s b, ?_⟩,
      fun source room => ⟨_, exec_deskWriteByte s b, ?_⟩, fun full => ⟨_, exec_deskWriteByte s b, ?_⟩⟩
    · rw [DeskPort.writeByte_of_empty receiving empty, if_pos ⟨low, high⟩]
    · rw [DeskPort.writeByte_of_empty receiving empty, if_neg named]
      rfl
    · rw [DeskPort.writeByte_of_source receiving source, if_pos room]
    · have source : s.desk.buffer ≠ [] := List.ne_nil_of_length_pos (by omega)
      rw [DeskPort.writeByte_of_source receiving source, if_neg (by omega)]
  case cut =>
    intro receiving
    exact ⟨_, exec_deskStopCondition s, DeskPort.stopCondition_of_receiving receiving⟩
  case ended =>
    intro frame
    exact ⟨_, exec_deskStopCondition s, DeskPort.stopCondition_of_frame frame⟩
  case reply =>
    intro replying
    exact ⟨_, exec_deskReplyByte s, DeskPort.replyByte_of_replying replying⟩
  case declined =>
    intro replying
    exact ⟨_, exec_deskReplyDeclined s, DeskPort.replyDeclined_of_replying replying⟩
  case bodies =>
    intro kind body
    show parseDeskRequest kind body ≠ .bad ↔ kind ∈ [1, 2] ∧ FitsCount body 4 5 8 ∨ kind = 3 ∧ FitsCount body 1 5 8
      ∨ kind ∈ [4, 7, 8] ∧ FitsCount body 0 5 8 ∨ _
    rw [parseDeskRequest_ne_bad, parseShared_ne_bad]
    simp only [List.mem_cons, List.not_mem_nil, or_false, ← BitVec.toNat_inj, BitVec.reduceToNat]
    rw [or_assoc, or_assoc, or_assoc, or_left_comm (b := _ = 13 ∧ _)]
  case fields =>
    intro parse port a lanes batch items
    have shared := fun {kind : Byte} => parse_of_shared port (kind := kind)
    refine ⟨shared (by decide) [a], shared (by decide) [a], fun word nonempty few fits => ⟨?_, ?_, ?_, ?_, ?_, ?_⟩⟩
    · exact (shared (by decide) _).trans (parseOptionsAndItems_bytes nonempty few fits .hold a lanes word)
    · exact (shared (by decide) _).trans (parseOptionsAndItems_bytes nonempty few fits .issue a lanes word)
    · exact (shared (by decide) _).trans (parseAllowanceAndItems_bytes nonempty few fits .confirm a)
    · exact (shared (by decide) _).trans (parseCounted_bytes nonempty few fits .cancel)
    · exact (shared (by decide) _).trans (parseCounted_bytes nonempty few fits .discharge)
    · exact (shared (by decide) _).trans (parseCounted_bytes nonempty few fits .query)

end Sys2Proof.Proofs

/-! # Settings written over the service link -/

namespace Sys2Proof.Machine

/-- A taken command of the host is worked by what its row does with it. -/
theorem State.serveLink_of_taken {s : State} {kind : Byte} {r : Request} (taken : s.link.work = .taken .link kind r)
    (f : Byte → Request → Option State) : s.serveLink f = (f kind r).getD s := State.serve_of_taken (p := .link) taken _

/-! ## SET HALL (10 R183) -/

/-- LENDING, REFERENCE and RESTRICTED, which may be the default class, are the classes of the numbers up to 3. -/
theorem ItemClass.may_be_default_iff (c : ItemClass) :
    (c = .lending ∨ c = .reference ∨ c = .restricted) ↔ c.number.toNat ≤ 3 := by
  cases c <;> decide

namespace RawHall

/-- The ranges of the hall settings. -/
abbrev InRange (v : RawHall) : Prop :=
  (1 ≤ v.hallMark ∧ v.hallMark ≤ 65535) ∧ (1 ≤ v.defaultClass ∧ v.defaultClass ≤ 3)
    ∧ (1 ≤ v.allowance ∧ v.allowance ≤ 240) ∧ v.leeway ≤ 30 ∧ (2 ≤ v.pendingLimit ∧ v.pendingLimit ≤ 60)
    ∧ (1 ≤ v.standingTime ∧ v.standingTime ≤ 30) ∧ v.lateWindow ≤ 300 ∧ v.guardGap ≤ 20

/-- The hall settings that values in range spell. -/
def written (v : RawHall) : HallSettings :=
  { hallMark := v.hallMark
    defaultClass := if v.defaultClass = 1 then .lending else if v.defaultClass = 2 then .reference else .restricted
    allowance := v.allowance, leeway := v.leeway, pendingLimit := v.pendingLimit, standingTime := v.standingTime,
    lateWindow := v.lateWindow, guardGap := v.guardGap }

/-- The class read from a number up to 3 is the one that is written. -/
theorem written_defaultClass {v : RawHall} {c : ItemClass} (named : c.number.toNat = v.defaultClass) (low : v.defaultClass ≤ 3) :
    v.written.defaultClass = c := by
  unfold written
  rw [← named] at low ⊢
  cases c
  case lending | reference | restricted => rfl
  case exempt | staff => exact absurd low (by decide)

/-- SET HALL's settings are found exactly where every value is in its range. -/
theorem settings_eq (v : RawHall) : v.settings = if v.InRange then some v.written else none := by
  unfold settings
  split
  next c read =>
    have named := (ItemClass.ofNumber_eq_some_iff _ _).1 read
    have low := c.number_bounds.1
    refine ite_congr (propext ?_) (fun inRange => ?_) fun _ => rfl
    · simp only [within, Bool.and_eq_true, Bool.or_eq_true, beq_iff_eq, decide_eq_true_eq, or_assoc, c.may_be_default_iff]
      omega
    · rw [← written_defaultClass named inRange.2.1.2, written]
  next unread =>
    refine (if_neg fun inRange : v.InRange => ?_).symm
    obtain ⟨-, ⟨low, high⟩, -⟩ := inRange
    obtain ⟨c, named⟩ := ItemClass.exists_number ⟨low, Nat.le_trans high (by decide)⟩
    exact absurd ((ItemClass.ofNumber_eq_some_iff _ c).2 named) (by simp [unread])

end RawHall

theorem exec_setHall {s : State} {kind : Byte} {v : RawHall} (taken : s.link.work = .taken .link kind (.setHall v)) :
    exec .setHall s = .next (if v.InRange then ({ s with hall := v.written } : State).replyOn .link kind (codeReply .done)
      else s.replyOn .link kind (codeReply .badValue)) := by
  show execSetHall s = _
  unfold execSetHall
  rw [State.serveLink_of_taken taken]
  by_cases inRange : v.InRange
  · simp only [v.settings_eq, if_pos inRange]
    rfl
  · simp only [v.settings_eq, if_neg inRange]
    rfl

/-! ## SET LANE (10 R185) -/

theorem oneOfTwo_eq {α : Type} (first second : α) (n : Nat) :
    oneOfTwo first second n = if 1 ≤ n ∧ n ≤ 2 then some (if n = 1 then first else second) else none := by
  match n with
  | 0 | 1 | 2 => rfl
  | n + 3 => exact (if_neg (by omega)).symm

theorem yesNo_eq (n : Nat) : yesNo n = if n ≤ 1 then some (decide (n = 1)) else none := by
  match n with
  | 0 | 1 => rfl
  | n + 2 => exact (if_neg (by omega)).symm

namespace RawLane

/-- The ranges of a lane's settings. -/
abbrev InRange (v : RawLane) : Prop :=
  v.bandGroup ≤ 3 ∧ (1 ≤ v.sweepMode ∧ v.sweepMode ≤ 2) ∧ (1 ≤ v.halfCycle ∧ v.halfCycle ≤ 2)
    ∧ (20 ≤ v.roundTime ∧ v.roundTime ≤ 100) ∧ (30 ≤ v.roundTimeout ∧ v.roundTimeout ≤ 250)
    ∧ v.roundTime + 10 ≤ v.roundTimeout ∧ v.retryLimit ≤ 3 ∧ (1 ≤ v.tenure ∧ v.tenure ≤ 15)
    ∧ (1 ≤ v.confirmationCount ∧ v.confirmationCount ≤ 8) ∧ (1 ≤ v.missLimit ∧ v.missLimit ≤ 15)
    ∧ (v.grace ≤ 3000 ∧ v.grace % 100 = 0) ∧ v.verify ≤ 1 ∧ (1 ≤ v.outerOnly ∧ v.outerOnly ≤ 2)
    ∧ (1 ≤ v.faultPolicy ∧ v.faultPolicy ≤ 2) ∧ (1 ≤ v.soundingTime ∧ v.soundingTime ≤ 60)

/-- The fourteen settings that values in range spell. -/
def written (v : RawLane) : LaneSettings :=
  { bandGroup := Fin.ofNat 4 v.bandGroup
    sweepMode := if v.sweepMode = 1 then .paired else .alternate
    halfCycle := if v.halfCycle = 1 then .continue else .restart
    roundTime := v.roundTime, roundTimeout := v.roundTimeout, retryLimit := v.retryLimit, tenure := v.tenure,
    confirmationCount := v.confirmationCount, missLimit := v.missLimit, grace := v.grace,
    verify := decide (v.verify = 1)
    outerOnly := if v.outerOnly = 1 then .ignore else .judge
    faultPolicy := if v.faultPolicy = 1 then .single else .stop
    soundingTime := v.soundingTime }

/-- The five enumerated values of a SET LANE name settings. -/
abbrev Named (v : RawLane) : Prop :=
  (1 ≤ v.sweepMode ∧ v.sweepMode ≤ 2) ∧ (1 ≤ v.halfCycle ∧ v.halfCycle ≤ 2) ∧ (1 ≤ v.outerOnly ∧ v.outerOnly ≤ 2)
    ∧ (1 ≤ v.faultPolicy ∧ v.faultPolicy ≤ 2) ∧ v.verify ≤ 1

theorem settings_of_not_named {v : RawLane} (h : ¬ v.Named) : v.settings = none := by
  unfold settings
  split
  next mode half outerOnly policy verify =>
    simp only [oneOfTwo_eq, yesNo_eq, Option.ite_none_right_eq_some] at mode half outerOnly policy verify
    exact absurd ⟨mode.1, half.1, outerOnly.1, policy.1, verify.1⟩ h
  next => rfl

theorem settings_of_named {v : RawLane} (named : v.Named) : v.settings = if v.InRange then some v.written else none := by
  obtain ⟨mode, half, outerOnly, policy, verify⟩ := named
  unfold settings
  simp only [oneOfTwo_eq, yesNo_eq, if_pos mode, if_pos half, if_pos outerOnly, if_pos policy, if_pos verify]
  split
  next group =>
    refine if_congr ?_ ?_ rfl
    · simp only [within, Bool.and_eq_true, beq_iff_eq, decide_eq_true_eq]
      omega
    · have number : (⟨v.bandGroup, group⟩ : GroupId) = Fin.ofNat 4 v.bandGroup := Fin.ext (Nat.mod_eq_of_lt group).symm
      rw [number, written]
  next group => exact (if_neg fun inRange : v.InRange => group (Nat.lt_succ_of_le inRange.1)).symm

/-- SET LANE's settings are found exactly where every value is in its range. -/
theorem settings_eq (v : RawLane) : v.settings = if v.InRange then some v.written else none := by
  by_cases named : v.Named
  · exact settings_of_named named
  · rw [settings_of_not_named named, if_neg (by omega)]

end RawLane

/-- SET LANE by the lane's state and the values' ranges. -/
theorem exec_setLane {s : State} {kind : Byte} {v : RawLane} (taken : s.link.work = .taken .link kind (.setLane v)) :
    exec .setLane s = .next (s.withLane kind v.lane fun l =>
      if (s.lane l).state ≠ .disabled then s.replyOn .link kind (codeReply .busy)
      else if v.InRange then (s.setLane l { s.lane l with settings := v.written }).replyOn .link kind (codeReply .done)
      else s.replyOn .link kind (codeReply .badValue)) := by
  show execSetLane s = _
  unfold execSetLane
  rw [State.serveLink_of_taken taken]
  by_cases inRange : v.InRange
  · simp only [v.settings_eq, if_pos inRange, bne_iff_ne]
    rfl
  · simp only [v.settings_eq, if_neg inRange, bne_iff_ne]
    rfl

end Sys2Proof.Machine

/-! # The hall settings and the lane settings, settled -/

namespace Sys2Proof.Proofs

open Sys2Proof Sys2Proof.Machine Sys2Proof.Machine.State

/-- Settles O10: the settings are found exactly where every value is in its range. -/
theorem setHallWritesAllOrNothing : Obligations.SetHallWritesAllOrNothing := by
  unfold Obligations.SetHallWritesAllOrNothing
  intro s kind v taken
  refine ⟨fun inRange : v.InRange => ?_, fun outside : ¬ v.InRange => ?_⟩
  · rw [exec_setHall taken, if_pos inRange, RawHall.written]
  · rw [exec_setHall taken, if_neg outside]

/-- Settles O13: the lane number is tested first, then the state of the lane, and then the values together. -/
theorem setLaneTestsThenWritesAllSettings : Obligations.SetLaneTestsThenWritesAllSettings := by
  unfold Obligations.SetLaneTestsThenWritesAllSettings
  intro s kind v taken
  refine ⟨fun high => ?_, fun l named => ⟨fun busy => ?_, fun disabled (outside : ¬ v.InRange) => ?_,
    fun disabled (inRange : v.InRange) => ?_⟩⟩
  · rw [exec_setLane taken, withLane_of_high high]
  all_goals rw [exec_setLane taken, ← named, withLane_val]
  · rw [if_pos busy]
  · rw [if_neg (not_not.2 disabled), if_neg outside]
  · rw [if_neg (not_not.2 disabled), if_pos inRange, RawLane.written]

end Sys2Proof.Proofs

/-! # What the host reads

The replies of READ LANE, READ STATUS and READ NOTICES by their bytes, and what CLEAR COUNTS leaves of the state. -/

namespace Sys2Proof.Machine

/-! ## Bytes of records (11 R193, R198) -/

theorem byteOr_eq {α : Type} (absent : Byte) (f : α → Byte) (x : Option α) : byteOr absent f x = (x.map f).getD absent := by
  cases x <;> rfl

theorem AlarmRecord.bytes_eq (r : AlarmRecord) : r.bytes =
    beBytes 2 r.number.toNat ++ [BitVec.ofNat 8 r.lane.val] ++ beBytes 5 r.item ++ beBytes 5 (r.raw.getD 0)
      ++ [r.cls.number, if r.unverified then 1 else 0] ++ timeBytes (some r.raised) ++ timeBytes (some r.soundingEnd)
      ++ [r.state.number] ++ timeBytes r.closedAt ++ [(r.closedBy.map fun src => BitVec.ofNat 8 src.number).getD 255] := by
  unfold bytes
  rw [byteOr_eq]
  rfl

theorem Passage.bytes_eq (p : Passage) (held : Bool) : p.bytes held =
    beBytes 5 p.item ++ beBytes 5 (p.raw.getD 0) ++ [BitVec.ofNat 8 p.window.val, p.cls.number] ++ timeBytes (some p.firstSeen)
      ++ [p.firstHead.number, BitVec.ofNat 8 p.innerTally, BitVec.ofNat 8 p.outerTally] ++ timeBytes p.innerConfirmed
      ++ timeBytes p.outerConfirmed
      ++ [BitVec.ofNat 8 p.missCount, p.stage.number, (p.verdict.map Verdict.number).getD 0, if held then 1 else 0] := by
  unfold bytes
  rw [byteOr_eq]
  rfl

theorem Judgement.bytes_eq (j : Judgement) (free : BitVec 16) : j.bytes free =
    [j.stage.number, (j.reason.map Reason.number).getD 0] ++ timeBytes j.graceEnd
      ++ [(j.verdict.map Verdict.number).getD 0, if j.alarmNumber.isSome then 1 else 0]
      ++ beBytes 2 (j.alarmNumber.getD free).toNat := by
  unfold bytes
  rw [byteOr_eq, byteOr_eq]
  rfl

/-- The counters of a lane in the order of 11 R199. -/
def LaneCounts.values (c : LaneCounts) : List (BitVec 32) :=
  [c.cycles, c.abortedRounds, c.lossyRounds, c.entered, c.foreignCodes, c.crowdDrops, c.passes, c.exemptPasses, c.alarms,
    c.strays, c.shadows, c.dropped]

theorem LaneCounts.bytes_eq (c : LaneCounts) : c.bytes = c.values.flatMap countBytes := by
  simp only [bytes, values, List.flatMap_cons, List.flatMap_nil, List.append_assoc, List.append_nil]

theorem countBytes_length (n : BitVec 32) : (countBytes n).length = 4 := beBytes_length ..

theorem HeadUnit.countBytes_length (u : HeadUnit) : u.countBytes.length = 10 := by
  simp only [HeadUnit.countBytes, List.length_append, beBytes_length, Machine.countBytes_length]

theorem LaneCounts.bytes_length (c : LaneCounts) : c.bytes.length = 48 := by
  simp only [bytes, List.length_append, Machine.countBytes_length]

/-! ## READ LANE (10 R187) -/

/-- The judgement that a lane owns for the item of a passage. -/
def State.ownedJudgement (s : State) (l : LaneId) (p : Passage) : Option Judgement :=
  s.judge.entries.find? fun j => j.item == p.item && j.owner == l

/-- A passage says whether a judgement follows, and the one that the lane owns follows it. -/
theorem passageReply_eq (s : State) (l : LaneId) (p : Passage) (free : BitVec 16) : passageReply s l p free =
    p.bytes (s.ownedJudgement l p).isSome ++ ((s.ownedJudgement l p).map fun j => j.bytes free).getD [] := by
  unfold passageReply State.ownedJudgement
  split
  next found => simp [found]
  next absent => simp [absent]

/-- The passages follow one another, the free values counting up along them (log entry 10). -/
theorem passagesReply_eq (s : State) (l : LaneId) (ps : List Passage) (n : Nat) : passagesReply s l ps n =
    (ps.zipIdx n).flatMap fun x => passageReply s l x.1 (Config.freeAlarmNumber x.2) := by
  induction ps generalizing n with
  | nil => rfl
  | cons p ps ih => rw [passagesReply, ih, List.zipIdx_cons, List.flatMap_cons]

theorem exec_readLane {s : State} {kind : Byte} {lane : Nat} (taken : s.link.work = .taken .link kind (.readLane lane)) :
    exec .readLane s = .next (s.withLane kind lane fun l =>
      ({ s with freeReads := s.freeReads + (s.lane l).passages.length } : State).replyOn .link kind (laneReply s l)) := by
  show execReadLane s = _
  unfold execReadLane
  rw [State.serveLink_of_taken taken]
  rfl

/-! ## READ STATUS (10 R188, 11 R199) -/

/-- The bytes of a READ STATUS after its code. -/
def State.statusBody (s : State) : List Byte :=
  allLanes.map (fun l => (s.lane l).state.number) ++ s.heads.map (fun u => u.state.number)
    ++ beBytes 2 (s.stageCount .pending) ++ beBytes 2 (s.stageCount .cleared) ++ beBytes 2 (s.stageCount .departed)
    ++ s.table.pendingCounts.toList.map small
    ++ [small (s.recordCount .opened), small (s.recordCount .acknowledged), small (s.recordCount .settled)]
    ++ beBytes 2 s.log.counter.toNat
    ++ countBytes s.table.lapsed ++ countBytes s.table.expired ++ countBytes s.table.evicted
    ++ s.heads.flatMap HeadUnit.countBytes ++ allLanes.flatMap (fun l => (s.lane l).counts.values.flatMap countBytes)
    ++ countBytes s.log.overwrites ++ countBytes s.desk.abandoned ++ countBytes s.link.badFrames ++ countBytes s.link.lostBytes
    ++ s.heads.map fun u => yesNoByte u.rollover

theorem statusReply_eq (s : State) : statusReply s = 1 :: s.statusBody := by
  unfold statusReply State.statusBody
  simp only [LaneCounts.bytes_eq, List.cons_append, List.nil_append]
  rfl

theorem State.heads_length (s : State) : s.heads.length = 16 := by simp [heads, allLanes]

/-- 639 bytes, block by block: 8 + 16 + 6 + 16 + 3 + 2 + 12 + 160 + 384 + 16 + 16. -/
theorem State.statusBody_length (s : State) : s.statusBody.length = 639 := by
  have lanes : allLanes.length = 8 := rfl
  have headCounts : (s.heads.flatMap HeadUnit.countBytes).length = 160 := by
    simp [List.length_flatMap, HeadUnit.countBytes_length, s.heads_length]
  have laneCounts : (allLanes.flatMap fun l => (s.lane l).counts.values.flatMap countBytes).length = 384 := by
    simp [← LaneCounts.bytes_eq, List.length_flatMap, LaneCounts.bytes_length, lanes]
  unfold statusBody
  simp only [List.length_append, List.length_map, List.length_cons, List.length_nil, beBytes_length,
    Vector.length_toList, headCounts, laneCounts, s.heads_length, countBytes_length, lanes]

theorem exec_readStatus {s : State} {kind : Byte} (taken : s.link.work = .taken .link kind .readStatus) :
    exec .readStatus s = .next (s.replyOn .link kind (1 :: s.statusBody)) := by
  show execReadStatus s = _
  unfold execReadStatus
  rw [State.serveLink_of_taken taken, ← statusReply_eq]
  rfl

theorem State.stageCount_eq (s : State) (st : Stage) :
    s.stageCount st = s.table.entries.countP fun e => decide (e.stage = st) := rfl

theorem State.recordCount_eq (s : State) (st : AlarmState) :
    s.recordCount st = s.log.records.countP fun r => decide (r.state = st) := rfl

/-! ## CLEAR COUNTS and READ NOTICES (10 R189, R190) -/

namespace State

theorem clearCounters_eq (s : State) : s.clearCounters = { s with
    lanes := (s.modLanes clearLane).lanes
    table := { s.table with lapsed := 0, expired := 0, evicted := 0 }
    log := { s.log with overwrites := 0 }
    desk := { s.desk with abandoned := 0 } } := by
  have cleared : s.clearCounters = { s.modLanes clearLane with
      table := { (s.modLanes clearLane).table with lapsed := 0, expired := 0, evicted := 0 }
      log := { (s.modLanes clearLane).log with overwrites := 0 }
      desk := { (s.modLanes clearLane).desk with abandoned := 0 } } := by
    unfold modLanes
    rfl
  rw [cleared, modLanes_frame]

theorem lane_clearCounters (s : State) (l : LaneId) : s.clearCounters.lane l = clearLane (s.lane l) := by
  rw [clearCounters_eq]
  exact lane_modLanes s clearLane l

end State

theorem exec_clearCounts {s : State} {kind : Byte} (taken : s.link.work = .taken .link kind .clearCounts) :
    exec .clearCounts s = .next (s.clearCounters.replyOn .link kind (codeReply .done)) := by
  show execClearCounts s = _
  unfold execClearCounts
  rw [State.serveLink_of_taken taken]
  rfl

theorem exec_readNotices {s : State} {kind : Byte} (taken : s.link.work = .taken .link kind .readNotices) :
    exec .readNotices s = .next (({ s with link := { s.link with notices := NoticeSet.empty, noticeLine := false } } : State).replyOn
      .link kind (noticesReply s.link.notices)) := by
  show execReadNotices s = _
  unfold execReadNotices
  rw [State.serveLink_of_taken taken]
  rfl

end Sys2Proof.Machine

/-! # What the host reads and clears, settled -/

namespace Sys2Proof.Proofs

open Sys2Proof Sys2Proof.Machine Sys2Proof.Machine.State

/-- Settles O52: each command by the service of its taken request, and its reply by the bytes of its records. -/
theorem hostReadsAndClears : Obligations.HostReadsAndClears := by
  unfold Obligations.HostReadsAndClears
  refine ⟨fun s kind => ⟨fun lane taken => ⟨fun high => ?_, fun l named => ?readLane⟩,
    fun taken => ⟨exec_readStatus taken, s.statusBody_length⟩,
    fun taken => ⟨s.clearCounters, exec_clearCounts taken, ?_, s.lane_clearCounters⟩, exec_readNotices,
    AlarmRecord.bytes_eq⟩, rfl, rfl, rfl, rfl, rfl, rfl, rfl, rfl, rfl, rfl⟩
  · rw [exec_readLane taken, withLane_of_high high]
  case readLane =>
    rw [exec_readLane taken, ← named, withLane_val, laneReply, passagesReply_eq]
    simp only [passageReply_eq, Passage.bytes_eq, Judgement.bytes_eq]
    rfl
  · rw [clearCounters_eq]

end Sys2Proof.Proofs

/-! # The service link

What the port of the service link does with a byte in each of its states, and which commands the bytes of a frame spell. -/

namespace Sys2Proof.Machine

namespace LinkPort

variable {p : LinkPort} {now : Time} {b : Byte}

/-! ## Bytes that arrive (10 R179) -/

theorem byteArrives_of_full (full : 1024 ≤ p.buffer.length) : p.byteArrives now b = { p with lostBytes := p.lostBytes + 1 } :=
  if_pos full

theorem byteArrives_of_room (room : p.buffer.length < 1024) : p.byteArrives now b = pump now (p.buffer ++ [b]) p :=
  if_neg (Nat.not_le.2 room)

/-- A port that works or sends keeps the byte. -/
theorem byteArrives_of_busy (room : p.buffer.length < 1024) (busy : p.state = .working ∨ p.state = .sending) :
    p.byteArrives now b = { p with buffer := p.buffer ++ [b] } := by
  have waits : ¬ p.state.takesBytes = true := by obtain state | state := busy <;> simp [state, LinkState.takesBytes]
  obtain ⟨x, xs, kept⟩ : ∃ x xs, p.buffer ++ [b] = x :: xs := List.exists_cons_of_ne_nil (by simp)
  rw [byteArrives_of_room room, kept, pump, if_neg waits]

/-- With nothing waiting, a port that takes bytes takes the byte at once. -/
theorem byteArrives_of_taking (empty : p.buffer = []) (takes : p.state = .hunting ∨ p.state = .receiving) :
    p.byteArrives now b = p.takeByte now b := by
  have taking : p.state.takesBytes = true := by obtain state | state := takes <;> rw [state] <;> rfl
  have room : p.buffer.length < 1024 := by simp [empty]
  have still : (p.takeByte now b).buffer = [] := (p.takeByte_sameLines now b).buffer.trans empty
  rw [byteArrives_of_room room, empty, List.nil_append, pump, if_pos taking, pump, ← still]

theorem takeByte_of_hunting (hunting : p.state = .hunting) : p.takeByte now b =
    if b = 0x7E then { p with state := .receiving, frame := [], quietSince := now } else p := by
  unfold takeByte
  simp only [hunting]

theorem takeByte_of_receiving (receiving : p.state = .receiving) :
    p.takeByte now b = ({ p with frame := p.frame ++ [b], quietSince := now } : LinkPort).examine := by
  unfold takeByte
  simp only [receiving]

/-! ## The frame received so far (10 R180, R181) -/

theorem badFrame_eq (p : LinkPort) : p.badFrame =
    { p with badFrames := p.badFrames + 1, state := .sending, work := .idle, sent := 0, reply := linkFrame 0 [18] } := rfl

/-- A command taken; CLEAR COUNTS zeroes the port's two counters as it is taken (10 R189). -/
theorem goodFrame_eq (p : LinkPort) (kind : Byte) (body : List Byte) : p.goodFrame kind body =
    { p with
        state := .working, work := .taken .link kind (parseLinkRequest kind body)
        badFrames := if parseLinkRequest kind body = .clearCounts then 0 else p.badFrames
        lostBytes := if parseLinkRequest kind body = .clearCounts then 0 else p.lostBytes } := by
  unfold goodFrame
  cases parseLinkRequest kind body <;> rfl

/-- The length that the first two bytes of a frame spell. -/
def frameLength (p : LinkPort) : Nat := beNat (p.frame.take 2)

/-- A frame without its length is left as it is. -/
theorem examine_of_no_length (short : p.frame.length < 2) : p.examine = p := by
  unfold examine
  split
  next frame => simp [frame] at short
  next => rfl

/-- A frame whose check matches, by its bytes between length and check: a kind and its body are a command. -/
def takeCommand (p : LinkPort) : List Byte → LinkPort
  | kind :: body => p.goodFrame kind body
  | [] => p.badFrame

/-- A frame with its length is bad by the length, not yet whole, or whole, and then judged by its check. -/
theorem examine_of_length (header : 2 ≤ p.frame.length) : p.examine =
    if p.frameLength = 0 ∨ 226 < p.frameLength then p.badFrame
    else if p.frame.length < p.frameLength + 4 then p
    else if p.frame.drop (p.frameLength + 2) = crcBytes (p.frame.take (p.frameLength + 2)) then
      p.takeCommand ((p.frame.take (p.frameLength + 2)).drop 2)
    else p.badFrame := by
  obtain ⟨l1, l0, rest, frame⟩ : ∃ l1 l0 rest, p.frame = l1 :: l0 :: rest := by
    match frame : p.frame with
    | [] | [_] => simp [frame] at header
    | l1 :: l0 :: rest => exact ⟨l1, l0, rest, rfl⟩
  unfold examine frameLength
  simp only [frame]
  refine if_congr Iff.rfl rfl (if_congr (Nat.add_lt_add_iff_right (k := 2)).symm rfl (if_congr Iff.rfl ?_ rfl))
  show _ = p.takeCommand (rest.take (beNat [l1, l0]))
  cases rest.take (beNat [l1, l0]) <;> rfl

section
variable (header : 2 ≤ p.frame.length)
include header

theorem examine_of_bad_length (bad : p.frameLength = 0 ∨ 226 < p.frameLength) : p.examine = p.badFrame := by
  rw [examine_of_length header, if_pos bad]

variable (nonempty : p.frameLength ≠ 0) (inRange : p.frameLength ≤ 226)
include nonempty inRange

theorem examine_of_part (part : p.frame.length < p.frameLength + 4) : p.examine = p := by
  rw [examine_of_length header, if_neg (not_or.2 ⟨nonempty, Nat.not_lt.2 inRange⟩), if_pos part]

variable (whole : p.frameLength + 4 ≤ p.frame.length)
include whole

theorem examine_of_bad_check (wrong : p.frame.drop (p.frameLength + 2) ≠ crcBytes (p.frame.take (p.frameLength + 2))) :
    p.examine = p.badFrame := by
  rw [examine_of_length header, if_neg (not_or.2 ⟨nonempty, Nat.not_lt.2 inRange⟩), if_neg (Nat.not_lt.2 whole), if_neg wrong]

theorem examine_of_good {kind : Byte} {body : List Byte}
    (check : p.frame.drop (p.frameLength + 2) = crcBytes (p.frame.take (p.frameLength + 2)))
    (spelled : (p.frame.take (p.frameLength + 2)).drop 2 = kind :: body) : p.examine = p.goodFrame kind body := by
  rw [examine_of_length header, if_neg (not_or.2 ⟨nonempty, Nat.not_lt.2 inRange⟩), if_neg (Nat.not_lt.2 whole), if_pos check,
    spelled, takeCommand]

end

/-! ## Silence and the end of a reply -/

theorem silent_iff : p.silent now = true ↔ p.state = .receiving ∧ p.buffer = [] ∧ p.quietSince + 50 ≤ now := by
  simp only [silent, Bool.and_eq_true, beq_iff_eq, List.isEmpty_iff, decide_eq_true_eq, and_assoc]
  rfl

/-- The waiting bytes are worked as though each had just arrived. -/
theorem replyLeft_eq_foldl (few : p.buffer.length ≤ 1024) : p.replyLeft now =
    p.buffer.foldl (fun q x => q.byteArrives now x) { p with state := .hunting, frame := [], buffer := [], sent := p.reply.length } := by
  have arrivals := pump_arrivals now p.buffer { p with state := .hunting, frame := [], buffer := [], sent := p.reply.length }
    (fun _ => rfl) (by simpa using few)
  refine (arrivals.trans ((if_pos rfl).trans ?_)).symm
  exact pump_buffer now p.buffer [] { p with state := .hunting, frame := [], sent := p.reply.length }

end LinkPort

/-! ## The commands of the service link line: each changes the port alone -/

theorem exec_serviceByte (s : State) (b : Byte) :
    exec (.serviceByte b) s = .next { s with link := s.link.byteArrives s.hallTime b } := rfl

/-- A byte taken in RECEIVING joins the frame, which is then looked at. -/
theorem exec_serviceByte_of_receiving {s : State} {b : Byte} {q : LinkPort} (empty : s.link.buffer = [])
    (receiving : s.link.state = .receiving)
    (examined : ({ s.link with frame := s.link.frame ++ [b], quietSince := s.hallTime } : LinkPort).examine = q) :
    exec (.serviceByte b) s = .next { s with link := q } := by
  rw [exec_serviceByte, LinkPort.byteArrives_of_taking empty (.inr receiving), LinkPort.takeByte_of_receiving receiving, examined]

/-- Bytes that arrive one after another, each taken by the port as the one before it left it. -/
theorem foldl_serviceBytes (s : State) (bytes : List Byte) (q : LinkPort) :
    bytes.foldl (fun (outcome : StepOutcome) x => match outcome with
      | .next t => exec (.serviceByte x) t
      | .fault why => .fault why
      | .refused why => .refused why) (.next { s with link := q }) =
    .next { s with link := bytes.foldl (fun q x => q.byteArrives s.hallTime x) q } := by
  induction bytes generalizing q with
  | nil => rfl
  | cons x bytes ih => exact ih (q.byteArrives s.hallTime x)

theorem exec_frameTimeout {s : State} (silent : s.link.silent s.hallTime = true) :
    exec .frameTimeout s = .next { s with link := s.link.badFrame } := by
  show execFrameTimeout s = _
  unfold execFrameTimeout State.modLink
  simp only [if_pos silent]

theorem exec_replySent {s : State} (sending : s.link.state = .sending) :
    exec .replySent s = .next { s with link := s.link.replyLeft s.hallTime } := by
  show execReplySent s = _
  unfold execReplySent State.modLink
  simp only [if_pos (beq_iff_eq.2 sending)]

/-! ## Which bodies fit their kind (11 R197, R200) -/

theorem parseBatchAndSource_ne_bad (k : BatchKind) (body : List Byte) :
    parseBatchAndSource k body ≠ .bad ↔ body.length = 3 := by
  unfold parseBatchAndSource
  split
  · simp
  next other => simpa [List.length_eq_three] using other

theorem parseRights_ne_bad (body : List Byte) : parseRights body ≠ .bad ↔ body.length = 3 := by
  unfold parseRights
  split
  · simp
  next other => simpa [List.length_eq_three] using other

theorem parseAfter_ne_bad (body : List Byte) : parseAfter body ≠ .bad ↔ body.length = 0 ∨ body.length = 2 := by
  match body with
  | [] | [_] | [_, _] | _ :: _ :: _ :: _ => simp [parseAfter]

theorem parseHall_ne_bad (body : List Byte) : parseHall body ≠ .bad ↔ body.length = 10 := by
  refine ⟨fun read => ?_, fun length => ?_⟩
  · unfold parseHall at read
    split at read
    · rfl
    · exact absurd rfl read
  · match body, length with
    | [_, _, _, _, _, _, _, _, _, _], _ => exact Request.noConfusion

theorem parseWindow_ne_bad (body : List Byte) : parseWindow body ≠ .bad ↔ body.length = 15 := by
  refine ⟨fun read => ?_, fun length => ?_⟩
  · unfold parseWindow at read
    split at read
    · rfl
    · exact absurd rfl read
  · match body, length with
    | [_, _, _, _, _, _, _, _, _, _, _, _, _, _, _], _ => exact Request.noConfusion

theorem parseLane_ne_bad (body : List Byte) : parseLane body ≠ .bad ↔ body.length = 16 := by
  refine ⟨fun read => ?_, fun length => ?_⟩
  · unfold parseLane at read
    split at read
    · rfl
    · exact absurd rfl read
  · match body, length with
    | [_, _, _, _, _, _, _, _, _, _, _, _, _, _, _, _], _ => exact Request.noConfusion

/-- The host's kinds by the body that each takes; every kind that is not its own is read as on both ports. -/
theorem parseLinkRequest_ne_bad (kind : Byte) (body : List Byte) : parseLinkRequest kind body ≠ .bad ↔
    kind ∈ [1, 2] ∧ FitsCount body 4 5 8 ∨ kind = 3 ∧ FitsCount body 1 5 8 ∨ kind ∈ [4, 7, 8] ∧ FitsCount body 0 5 8
      ∨ kind = 9 ∧ FitsCount body 0 7 32 ∨ kind ∈ [11, 23, 24, 25, 27, 28, 29] ∧ body.length = 0
      ∨ kind ∈ [14, 15, 20, 21, 22] ∧ body.length = 1 ∨ kind ∈ [25, 26] ∧ body.length = 2
      ∨ kind ∈ [5, 6, 18] ∧ body.length = 3 ∨ kind = 10 ∧ body.length = 5 ∨ kind = 16 ∧ body.length = 10
      ∨ kind = 17 ∧ body.length = 15 ∨ kind = 19 ∧ body.length = 16 := by
  simp only [List.mem_cons, List.not_mem_nil, or_false, ← BitVec.toNat_inj, BitVec.reduceToNat]
  unfold parseLinkRequest
  split
  case h_1 number | h_2 number => simp [number, parseBatchAndSource_ne_bad]
  case h_3 number => simp [number, parseCounted_ne_bad _ 32 7 parseLoads parseLoads_isSome]
  case h_4 number => simp [number, parseItem_ne_bad]
  case h_5 number | h_13 number | h_14 number | h_17 number | h_18 number | h_19 number => simp [number, parseNothing_ne_bad]
  case h_6 number => simp [number, parseHall_ne_bad]
  case h_7 number => simp [number, parseWindow_ne_bad]
  case h_8 number => simp [number, parseRights_ne_bad]
  case h_9 number => simp [number, parseLane_ne_bad]
  case h_10 number | h_11 number | h_12 number => simp [number, parseByte_ne_bad]
  case h_15 number => simp [number, parseAfter_ne_bad]
  case h_16 number => simp [number, parseTwo_ne_bad]
  case h_20 =>
    rw [parseShared_ne_bad]
    simp_all

/-- LOAD groups of item, allowance and lanes are found again. -/
theorem parseLinkRequest_load {items : List RawItem} (nonempty : 1 ≤ items.length) (few : items.length ≤ 32)
    (fits : ∀ x ∈ items, x.item < 256 ^ 5 ∧ x.allowance < 256) :
    parseLinkRequest 9 (BitVec.ofNat 8 items.length :: items.flatMap fun x =>
        beBytes 5 x.item ++ [BitVec.ofNat 8 x.allowance, x.lanes]) =
      .items .load { batch := 0, lanes := 0, allowance := 0 } items := by
  have count : (BitVec.ofNat 8 items.length).toNat = items.length := by
    rw [BitVec.toNat_ofNat, Nat.mod_eq_of_lt (by omega)]
  show itemRequest .load .absent (countedItems 32 parseLoads _ _) = _
  rw [countedItems, count, if_pos ⟨nonempty, few⟩, parseLoads_bytes items fits]
  rfl

end Sys2Proof.Machine

/-! # The service link, settled -/

namespace Sys2Proof.Proofs

open Sys2Proof Sys2Proof.Machine Sys2Proof.Machine.LinkPort

/-- Settles O54: a byte by the state of the port, silence, the end of a reply, and then the commands by their kind. -/
theorem serviceFramesAreReceivedOrRefused : Obligations.ServiceFramesAreReceivedOrRefused := by
  unfold Obligations.ServiceFramesAreReceivedOrRefused
  refine ⟨fun s b => ⟨?full, ?kept, ?started, ?dropped, ?received, ?cut, ?sent⟩, parseLinkRequest_ne_bad,
    fun a b c d e f g h i j k l m n o p => ⟨rfl, rfl, rfl, rfl, rfl, rfl, rfl, rfl, rfl, rfl, rfl, rfl, rfl, rfl, rfl, rfl, rfl, rfl,
      rfl⟩, fun _ => parseLinkRequest_load⟩
  case full =>
    intro full
    rw [exec_serviceByte, byteArrives_of_full full]
  case kept =>
    intro room busy
    rw [exec_serviceByte, byteArrives_of_busy room busy]
  case started =>
    intro empty hunting start
    rw [exec_serviceByte, byteArrives_of_taking empty (.inl hunting), takeByte_of_hunting hunting, if_pos start]
  case dropped =>
    intro empty hunting other
    rw [exec_serviceByte, byteArrives_of_taking empty (.inl hunting), takeByte_of_hunting hunting, if_neg other]
  case received =>
    intro empty receiving q
    have becomes := fun {q' : LinkPort} (examined : q.examine = q') => exec_serviceByte_of_receiving empty receiving examined
    refine ⟨fun short => ?_, fun header bad => ?_, fun header nonempty inRange => ⟨fun part => ?_, fun whole wrong => ?_,
      fun whole check kind body spelled => ?_⟩⟩
    · exact becomes (examine_of_no_length short)
    · exact becomes (examine_of_bad_length header bad)
    · exact becomes (examine_of_part header nonempty inRange part)
    · exact becomes (examine_of_bad_check header nonempty inRange whole wrong)
    · exact becomes ((examine_of_good (p := q) header nonempty inRange whole check spelled).trans (goodFrame_eq q kind body))
  case cut =>
    intro receiving empty silent
    exact exec_frameTimeout (silent_iff.2 ⟨receiving, empty, silent⟩)
  case sent =>
    intro sending few
    rw [exec_replySent sending, replyLeft_eq_foldl few]
    exact (foldl_serviceBytes s s.link.buffer _).symm

end Sys2Proof.Proofs

/-! # Steps

A step runs the front command on the rest of the queue; on an empty queue it runs what is due, or lets a millisecond pass. -/

namespace Sys2Proof.Machine

theorem step_of_front {s : State} {c : Instr} {rest : List Instr} (front : s.pending = c :: rest) :
    step s = exec c { s with pending := rest } := by
  unfold step
  rw [front]

theorem step_of_empty {s : State} (empty : s.pending = []) : step s = idle s := by
  unfold step
  rw [empty]

theorem idle_of_due {s : State} {c : Instr} (due : s.dueEvent = some c) : idle s = exec c s := by
  unfold idle
  rw [due]

theorem idle_of_none {s : State} (none : s.dueEvent = none) : idle s = .next s.tick := by
  unfold idle
  rw [none]

end Sys2Proof.Machine

/-! # The front command, settled -/

namespace Sys2Proof.Proofs

open Sys2Proof Sys2Proof.Machine

/-- Settles O1: the queue of the state with a command put before it has that command in front and the queue as its rest. -/
theorem stepRunsTheFrontCommand : Obligations.StepRunsTheFrontCommand := by
  unfold Obligations.StepRunsTheFrontCommand
  exact fun s c => ⟨step_of_front (State.withCommand_pending s c), fun _ front => step_of_front front⟩

end Sys2Proof.Proofs

/-! # What an idle part takes

Each kind of event that can be due has a source that answers a command exactly where one of that kind is due, and the sources are
asked one after another (log entry 3). -/

namespace Sys2Proof.Machine

/-- A source of events answers only commands that are due, and does answer where some command is. -/
structure TakesDue (event : Option Instr) (due : Instr → Prop) : Prop where
  sound {c : Instr} : event = some c → due c
  complete {c : Instr} : due c → event ≠ none

namespace TakesDue

variable {event later : Option Instr} {due dueLater : Instr → Prop}

theorem congr (takes : TakesDue event due) (same : ∀ c, due c ↔ dueLater c) : TakesDue event dueLater :=
  ⟨fun taken => (same _).1 (takes.sound taken), fun isDue => takes.complete ((same _).2 isDue)⟩

theorem or (takes : TakesDue event due) (takesLater : TakesDue later dueLater) :
    TakesDue (event.or later) fun c => due c ∨ dueLater c := by
  refine ⟨fun taken => ?_, fun isDue none => ?_⟩
  · obtain taken | ⟨-, taken⟩ := Option.or_eq_some_iff.1 taken
    · exact .inl (takes.sound taken)
    · exact .inr (takesLater.sound taken)
  · obtain ⟨none, noneLater⟩ := Option.or_eq_none_iff.1 none
    exact isDue.elim (takes.complete · none) (takesLater.complete · noneLater)

/-- The first of a list that passes a test. -/
theorem find? {α : Type} (xs : List α) (test : α → Bool) (command : α → Instr) :
    TakesDue ((xs.find? test).map command) fun c => ∃ x ∈ xs, c = command x ∧ test x = true := by
  refine ⟨fun taken => ?_, fun ⟨x, mem, _, passes⟩ none => ?_⟩
  · obtain ⟨x, found, rfl⟩ := Option.map_eq_some_iff.1 taken
    exact ⟨x, List.mem_of_find?_eq_some found, rfl, List.find?_some found⟩
  · exact List.find?_eq_none.1 (Option.map_eq_none_iff.1 none) x mem passes

theorem ite {p : Prop} [Decidable p] (c : Instr) : TakesDue (if p then some c else none) fun d => d = c ∧ p := by
  split
  next holds => exact ⟨fun taken => ⟨(Option.some.inj taken).symm, holds⟩, fun _ => Option.some_ne_none c⟩
  next fails => exact ⟨fun taken => (Option.some_ne_none _ taken.symm).elim, fun isDue => absurd isDue.2 fails⟩

end TakesDue

theorem mem_allGroups (g : GroupId) : g ∈ allGroups := by
  revert g
  decide

theorem mem_allDesks (d : DeskId) : d ∈ allDesks := by
  revert d
  decide

namespace State

/-! ## What each deadline turns on -/

theorem guardOver_iff (s : State) (g : GroupId) :
    s.guardOver g = true ↔ (s.arbiter g).band = .guarding ∧ (s.arbiter g).guardEnd ≤ s.hallTime := by
  simp [guardOver]

theorem timedOut_iff (s : State) (l : LaneId) (h : HeadPos) : s.timedOut l h = true ↔
    ∃ a, ((s.lane l).head h).outstanding = some a ∧ a.sentAt + (s.lane l).settings.roundTimeout ≤ s.hallTime := by
  unfold timedOut
  cases ((s.lane l).head h).outstanding <;> simp

theorem graceOver_iff (now : Time) (j : Judgement) :
    graceOver now j = true ↔ j.stage = .heldAbsent ∧ ∃ e, j.graceEnd = some e ∧ e ≤ now := by
  unfold graceOver
  cases j.graceEnd <;> simp

theorem replyFormed_iff (s : State) (p : PortId) : s.replyFormed p = true ↔
    p = .desk ∧ s.desk.state = .working ∧ s.desk.work = .idle ∧ s.desk.reply ≠ [] := by
  simp [replyFormed, DeskPort.replyFormed_iff]

/-- A lane is silent while it is DISABLED or each of its OPEN records has reached its sounding end (08 R159). -/
theorem sounds_eq_false_iff (s : State) (l : LaneId) : s.sounds l = false ↔ (s.lane l).state = .disabled
    ∨ ∀ r ∈ s.log.records, r.lane = l → r.state = .opened → r.soundingEnd ≤ s.hallTime := by
  rw [← Bool.not_eq_true, sounds_iff]
  simp only [not_and_or, not_not, not_exists, Nat.not_lt, ← imp_iff_not_or]

theorem dueEntry_isSome_iff (now : Time) (es : List Entry) : (dueEntry now es).isSome = true ↔ ∃ e ∈ es, e.due ≤ now := by
  cases found : dueEntry now es with
  | none => simpa using dueEntry_none found
  | some e =>
    obtain ⟨mem, reached, -⟩ := dueEntry_spec found
    simpa using ⟨e, mem, reached⟩

/-! ## The sources of events, in their order -/

/-- The request that a port has taken, or the reply of a read that came with no request. -/
theorem takesDue_takenCommand (s : State) (p : PortId) : TakesDue (s.takenCommand p) fun c =>
    (∃ src kind r, s.workOf p = .taken src kind r ∧ c = r.command p) ∨ c = .badRequest p ∧ s.replyFormed p = true := by
  unfold takenCommand
  by_cases formed : s.replyFormed p = true
  · rw [if_pos formed]
    exact ⟨fun taken => .inr ⟨(Option.some.inj taken).symm, formed⟩, fun _ => Option.some_ne_none _⟩
  · rw [if_neg formed]
    cases work : s.workOf p with
    | taken src kind r =>
      exact ⟨fun taken => .inl ⟨src, kind, r, rfl, (Option.some.inj taken).symm⟩, fun _ => Option.some_ne_none _⟩
    | idle | items _ _ _ _ _ | batch _ _ | walk | clearTable => exact ⟨nofun, by simp [formed]⟩

theorem takesDue_taken (s : State) : TakesDue ((s.takenCommand .desk).or (s.takenCommand .link)) fun c =>
    (∃ p src kind r, s.workOf p = .taken src kind r ∧ c = r.command p)
      ∨ c = .badRequest .desk ∧ s.desk.state = .working ∧ s.desk.work = .idle ∧ s.desk.reply ≠ [] := by
  refine ((takesDue_takenCommand s .desk).or (takesDue_takenCommand s .link)).congr fun c => ?_
  simp only [replyFormed_iff]
  constructor
  · rintro ((taken | ⟨rfl, -, formed⟩) | (taken | ⟨-, link, -⟩))
    · exact .inl ⟨.desk, taken⟩
    · exact .inr ⟨rfl, formed⟩
    · exact .inl ⟨.link, taken⟩
    · cases link
  · rintro (⟨p, taken⟩ | ⟨rfl, formed⟩)
    · cases p with
      | desk => exact .inl (.inl taken)
      | link => exact .inr (.inl taken)
    · exact .inl (.inr ⟨rfl, trivial, formed⟩)

theorem takesDue_guard (s : State) : TakesDue s.dueGuard fun c =>
    ∃ g, c = .guardEnd g ∧ (s.arbiter g).band = .guarding ∧ (s.arbiter g).guardEnd ≤ s.hallTime :=
  (TakesDue.find? ..).congr fun c => by simp only [mem_allGroups, true_and, guardOver_iff]

theorem takesDue_timeout (s : State) : TakesDue s.dueTimeout fun c =>
    ∃ l h a, c = .roundTimeout l h ∧ ((s.lane l).head h).outstanding = some a
      ∧ a.sentAt + (s.lane l).settings.roundTimeout ≤ s.hallTime := by
  refine ((TakesDue.find? ..).or (TakesDue.find? ..)).congr fun c => ?_
  simp only [mem_allLanes, true_and, timedOut_iff]
  constructor
  · rintro (⟨l, command, a, out⟩ | ⟨l, command, a, out⟩)
    · exact ⟨l, .inner, a, command, out⟩
    · exact ⟨l, .outer, a, command, out⟩
  · rintro ⟨l, h, a, command, out⟩
    cases h with
    | inner => exact .inl ⟨l, command, a, out⟩
    | outer => exact .inr ⟨l, command, a, out⟩

theorem takesDue_standing (s : State) : TakesDue s.dueStanding fun c =>
    ∃ (d : DeskId) (r : Standing), c = .standingEnd d ∧ s.standing[d] = some r ∧ r.ends ≤ s.hallTime :=
  (TakesDue.find? ..).congr fun c => by simp only [mem_allDesks, true_and, standingOver_iff, exists_and_left]

theorem takesDue_grace (s : State) : TakesDue s.dueGrace fun c =>
    ∃ j ∈ s.judge.entries, c = .graceEnd j.item ∧ j.stage = .heldAbsent ∧ ∃ e, j.graceEnd = some e ∧ e ≤ s.hallTime :=
  (TakesDue.find? ..).congr fun c => by simp only [graceOver_iff]

theorem takesDue_sounding (s : State) : TakesDue s.dueSounding fun c =>
    ∃ r ∈ s.log.records, c = .soundingEnd r.number ∧ r.state = .opened ∧ r.soundingEnd ≤ s.hallTime
      ∧ (s.lane r.lane).sounder = true
      ∧ ((s.lane r.lane).state = .disabled
        ∨ ∀ other ∈ s.log.records, other.lane = r.lane → other.state = .opened → other.soundingEnd ≤ s.hallTime) :=
  (TakesDue.find? ..).congr fun c => by
    simp only [Bool.and_eq_true, beq_iff_eq, decide_eq_true_eq, Bool.not_eq_true', sounds_eq_false_iff, and_assoc]

theorem takesDue_expiry (s : State) : TakesDue s.dueExpiry fun c =>
    c = .dueTimeReached ∧ s.port.expiry = none ∧ ∃ e ∈ s.table.entries, e.due ≤ s.hallTime :=
  (TakesDue.ite _).congr fun c => by simp only [Bool.and_eq_true, Option.isNone_iff_eq_none, dueEntry_isSome_iff]

theorem takesDue_silence (s : State) : TakesDue s.dueSilence fun c =>
    c = .frameTimeout ∧ s.link.state = .receiving ∧ s.link.buffer = [] ∧ s.link.quietSince + 50 ≤ s.hallTime :=
  (TakesDue.ite _).congr fun c => by rw [LinkPort.silent_iff]

theorem dueEvent_eq (s : State) : s.dueEvent =
    ((s.takenCommand .desk).or (s.takenCommand .link)).or (s.dueGuard.or (s.dueTimeout.or (s.dueStanding.or
      (s.dueGrace.or (s.dueSounding.or (s.dueExpiry.or s.dueSilence)))))) :=
  (Option.or_assoc ..).symm

end State

end Sys2Proof.Machine

/-! # Idle steps, settled -/

namespace Sys2Proof.Proofs

open Sys2Proof Sys2Proof.Machine Sys2Proof.Machine.State

/-- Settles O2: the sources of events together answer what is due. -/
theorem idleStepTakesWhatIsDueElseAMillisecond : Obligations.IdleStepTakesWhatIsDueElseAMillisecond := by
  unfold Obligations.IdleStepTakesWhatIsDueElseAMillisecond
  intro s empty now due
  have takes : TakesDue s.dueEvent due := by
    rw [dueEvent_eq]
    exact ((takesDue_taken s).or <| (takesDue_guard s).or <| (takesDue_timeout s).or <| (takesDue_standing s).or <|
      (takesDue_grace s).or <| (takesDue_sounding s).or <| (takesDue_expiry s).or (takesDue_silence s)).congr fun _ => or_assoc
  have idles := step_of_empty empty
  exact ⟨fun c isDue => ⟨idles.trans (idle_of_due isDue), takes.sound isDue⟩, fun ⟨_, isDue⟩ => takes.complete isDue,
    fun none => idles.trans (idle_of_none none)⟩

end Sys2Proof.Proofs

/-! # The queue of waiting commands

The queue is the model's own (log entry 1): each command answers a next state, and leaves the queue as it was. -/

namespace Sys2Proof.Machine

/-! ## The frames leave the queue -/

theorem LanesOnly.pending {s t : State} (h : LanesOnly s t) : t.pending = s.pending := by rw [h]
theorem JudgingOnly.pending {s t : State} (h : JudgingOnly s t) : t.pending = s.pending := by rw [h]
theorem ClaimOnly.pending {s t : State} (h : ClaimOnly s t) : t.pending = s.pending := by rw [h]
theorem PortsOnly.pending {s t : State} (h : PortsOnly s t) : t.pending = s.pending := by rw [h]
theorem Carried.pending {s t : State} (h : Carried s t) : t.pending = s.pending := by rw [h.frame]

namespace State

@[simp] theorem drive_pending (s : State) : s.drive.pending = s.pending := (lanesOnly_drive s).pending

/-! ## Claims -/

theorem claimOnly_takeFrom (s : State) (p : PortId) : ClaimOnly s (s.takeFrom p) := (portsOnly_takeFrom s p).claim

theorem claimOnly_takeItemClaim (s : State) (k : ItemKind) : ClaimOnly s (s.takeItemClaim k) := by
  unfold takeItemClaim
  split
  next p k' i src o _ =>
    split
    · have claimed := (claimOnly_takeFrom s p).trans (claimOnly_itemClaim (s.takeFrom p) k i src o)
      dsimp only
      split
      · exact claimed.trans (portsOnly_workItems ..).claim
      · exact claimed
    · exact .refl s
  · exact .refl s

theorem claimOnly_batchClaim (s : State) (k : BatchKind) (requester : Source) (e : Entry) :
    ClaimOnly s (s.batchClaim k requester e).1 := by
  unfold batchClaim
  split
  · split
    · exact claimOnly_confirmEntry ..
    · exact .refl s
  · exact claimOnly_cancelEntry ..

theorem claimOnly_takeBatchClaim (s : State) (k : BatchKind) : ClaimOnly s (s.takeBatchClaim k) := by
  unfold takeBatchClaim
  split
  next p k' requester sel b cursor _ =>
    split
    · have taken := claimOnly_takeFrom s p
      dsimp only
      split
      · split
        · exact taken.trans (portsOnly_replyOn ..).claim
        · exact taken
      next e _ =>
        have claimed := taken.trans (claimOnly_batchClaim (s.takeFrom p) k requester e)
        split
        · exact claimed.trans (portsOnly_continueBatch ..).claim
        · exact claimed
    · exact .refl s
  · exact .refl s

theorem claimOnly_takeWalkClaim (s : State) : ClaimOnly s s.takeWalkClaim := by
  unfold takeWalkClaim
  split
  · exact ((portsOnly_takeFrom ..).trans (portsOnly_replyOn ..)).claim
  · exact .refl s

theorem claimOnly_clearTableClaim (s : State) : ClaimOnly s s.clearTableClaim.1 := by
  unfold clearTableClaim
  split <;> rfl

theorem claimOnly_takeClearTableClaim (s : State) : ClaimOnly s s.takeClearTableClaim := by
  unfold takeClearTableClaim
  split
  · exact ((claimOnly_takeFrom ..).trans (claimOnly_clearTableClaim _)).trans (portsOnly_replyOn ..).claim
  · exact .refl s

theorem claimOnly_judgeEffect (s : State) (i : Item) (l : LaneId) : ClaimOnly s (s.judgeEffect i l) := by
  unfold judgeEffect
  split
  · rw [departEntry_eq]
    split <;> rfl
  · exact .refl s

theorem takeJudgeClaim_pending (s : State) : s.takeJudgeClaim.pending = s.pending := by
  unfold takeJudgeClaim
  split
  · exact ((portsOnly_setPort s _).claim.trans (claimOnly_judgeEffect ..)).pending
  · rfl

theorem portsOnly_offerExpiry (s : State) : PortsOnly s s.offerExpiry := by
  unfold offerExpiry
  split <;> rfl

theorem claimOnly_expiryEffect (s : State) (i : Item) : ClaimOnly s (s.expiryEffect i) := by
  unfold expiryEffect
  split
  · split
    · exact claimOnly_expireEntry ..
    · exact .refl s
  · exact .refl s

theorem claimOnly_takeExpiryClaim (s : State) : ClaimOnly s s.takeExpiryClaim := by
  unfold takeExpiryClaim
  split
  · exact ((portsOnly_setPort s _).claim.trans (claimOnly_expiryEffect ..)).trans (portsOnly_offerExpiry _).claim
  · exact .refl s

/-! ## Requests -/

theorem serve_pending {s : State} (p : PortId) {f : Source → Byte → Request → Option State}
    (work : ∀ src kind r t, f src kind r = some t → t.pending = s.pending) : (s.serve p f).pending = s.pending :=
  serve_keeps (motive := fun t => t.pending = s.pending) p rfl fun src kind r t _ answer => work src kind r t answer

theorem laneRequest_pending {s : State} {p : PortId} {src : Source} {kind : Byte} {lane : Nat} {act : LaneId → State × List Byte}
    (acts : ∀ l, (act l).1.pending = s.pending) : (s.laneRequest p src kind lane act).pending = s.pending :=
  laneRequest_keeps (motive := fun t => t.pending = s.pending) rfl acts (fun t bs h => (replyOn_pending t p kind bs).trans h)
    fun t h => t.drive_pending.trans h

theorem serveAckLane_pending (s : State) (p : PortId) : (s.serveAckLane p).pending = s.pending := by
  refine serve_pending p fun src kind r t answer => ?_
  split at answer
  · cases answer
    exact laneRequest_pending fun _ => rfl
  · cases answer

theorem serveRestartLane_pending (s : State) (p : PortId) : (s.serveRestartLane p).pending = s.pending := by
  refine serve_pending p fun src kind r t answer => ?_
  split at answer
  · cases answer
    exact laneRequest_pending fun l => (judgingOnly_restartLane s l).pending
  · cases answer

theorem portsOnly_serveBad (s : State) (p : PortId) : PortsOnly s (s.serveBad p) := by
  refine serve_keeps p (.refl s) fun src kind r t _ answer => ?_
  split at answer <;> cases answer
  exact portsOnly_replyOn ..

theorem softRestart_pending (s : State) : s.softRestart.pending = s.pending := by
  obtain ⟨_, -, frame⟩ := s.softRestart_frame
  have carried := (carried_carryOutDesk s).pending
  generalize s.softRestart = t, s.carryOutDesk = c at frame carried ⊢
  rw [frame]
  exact carried

theorem withLane_pending {s : State} {kind : Byte} {lane : Nat} {act : LaneId → State}
    (acts : ∀ l, (act l).pending = s.pending) : (s.withLane kind lane act).pending = s.pending := by
  unfold withLane
  split
  · exact acts _
  · rfl

theorem clearCounters_pending (s : State) : s.clearCounters.pending = s.pending :=
  foldl_lanes_keeps (f := fun t l => t.modLane l clearLane) (motive := fun t => t.pending = s.pending)
    (fun _ _ kept => kept) allLanes rfl

end State

/-! ## Every command -/

/-- A command answers a next state with the queue as it was. -/
def KeepsQueue (c : Instr) (s : State) : Prop := ∃ t, exec c s = .next t ∧ t.pending = s.pending

open State

namespace KeepsQueue

/-- A command of the host keeps the queue where its work does. -/
theorem of_serveLink {s : State} {c : Instr} {f : Byte → Request → Option State}
    (answers : exec c s = .next (s.serveLink f)) (work : ∀ kind r t, f kind r = some t → t.pending = s.pending) : KeepsQueue c s :=
  ⟨_, answers, serve_pending .link fun _ kind r t answer => work kind r t answer⟩

variable (s : State)

/-! ### Commands of the host -/

theorem setLane : KeepsQueue .setLane s := by
  refine of_serveLink rfl fun kind r t answer => ?_
  split at answer <;> cases answer
  refine withLane_pending fun l => ?_
  split
  · rfl
  · split <;> rfl

theorem enableLane : KeepsQueue .enableLane s := by
  refine of_serveLink rfl fun kind r t answer => ?_
  split at answer <;> cases answer
  refine withLane_pending fun l => ?_
  split
  · exact (drive_pending _).trans (lanesOnly_startLane s l).pending
  · rfl

theorem disableLane : KeepsQueue .disableLane s := by
  refine of_serveLink rfl fun kind r t answer => ?_
  split at answer <;> cases answer
  exact withLane_pending fun l => (drive_pending _).trans (judgingOnly_disableLane s l).pending

theorem readLane : KeepsQueue .readLane s := by
  refine of_serveLink rfl fun kind r t answer => ?_
  split at answer <;> cases answer
  exact withLane_pending fun _ => rfl

theorem clearCounts : KeepsQueue .clearCounts s := by
  refine of_serveLink rfl fun kind r t answer => ?_
  split at answer <;> cases answer
  exact clearCounters_pending s

theorem ackAlarm : KeepsQueue .ackAlarm s := by
  refine of_serveLink rfl fun kind r t answer => ?_
  split at answer
  · split at answer <;> cases answer
    · exact drive_pending _
    · rfl
  · cases answer

theorem restart : KeepsQueue .restart s := by
  refine ⟨_, rfl, serve_pending .link fun src kind r t answer => ?_⟩
  split at answer
  · obtain rfl := Option.some.inj answer
    rw [drive_pending, replyOn_pending, softRestart_pending]
  · cases answer

/-! ### BAD_REQUEST -/

theorem badRequest (p : PortId) : KeepsQueue (.badRequest p) s := by
  refine ⟨_, rfl, ?_⟩
  split
  · exact replyOn_pending ..
  · exact (portsOnly_serveBad s p).pending

/-! ### Head links, cycle reports and the judgement unit -/

theorem identReply (l : LaneId) (h : HeadPos) (m : List Byte) : KeepsQueue (.identReply l h m) s := by
  refine ⟨_, rfl, ?_⟩
  split
  · exact (drive_pending _).trans (lanesOnly_takeIdent ..).pending
  · rfl

theorem roundReport (l : LaneId) (h : HeadPos) (m : List Byte) : KeepsQueue (.roundReport l h m) s := by
  refine ⟨_, rfl, ?_⟩
  split
  · exact (lanesOnly_takeRound ..).pending
  · rfl

theorem probeReport (l : LaneId) (h : HeadPos) (m : List Byte) : KeepsQueue (.probeReport l h m) s := by
  refine ⟨_, rfl, ?_⟩
  split
  · exact (lanesOnly_takeProbe ..).pending
  · rfl

theorem headMessageDiscarded (l : LaneId) (h : HeadPos) (m : List Byte) : KeepsQueue (.headMessageDiscarded l h m) s := by
  refine ⟨_, rfl, ?_⟩
  split
  · exact (drive_pending _).trans (lanesOnly_discardMessage ..).pending
  · rfl

theorem roundTimeout (l : LaneId) (h : HeadPos) : KeepsQueue (.roundTimeout l h) s := by
  refine ⟨_, rfl, ?_⟩
  split
  · exact (drive_pending _).trans (lanesOnly_attemptFailed ..).pending
  · rfl

theorem cycleReport (l : LaneId) : KeepsQueue (.cycleReport l) s := by
  refine ⟨_, rfl, ?_⟩
  split
  · exact (lanesOnly_takeReport ..).pending
  · rfl

theorem passage (l : LaneId) : KeepsQueue (.passage l) s := by
  refine ⟨_, rfl, ?_⟩
  split
  · exact (drive_pending _).trans (judgingOnly_takePassage ..).pending
  · rfl

theorem verdict (l : LaneId) : KeepsQueue (.verdict l) s := by
  refine ⟨_, rfl, ?_⟩
  split <;> rfl

theorem judgeAnswer : KeepsQueue .judgeAnswer s := by
  refine ⟨_, rfl, ?_⟩
  split
  · exact (drive_pending _).trans (judgingOnly_takeAnswer ..).pending
  · rfl

theorem changeNotice : KeepsQueue .changeNotice s := by
  refine ⟨_, rfl, ?_⟩
  split
  · exact (drive_pending _).trans (judgingOnly_takeNotice ..).pending
  · rfl

theorem graceEnd (i : Item) : KeepsQueue (.graceEnd i) s := by
  refine ⟨_, rfl, ?_⟩
  split
  · split
    · exact (drive_pending _).trans (judgingOnly_verify ..).pending
    · rfl
  · rfl

theorem passageRemovalReport (l : LaneId) : KeepsQueue (.passageRemovalReport l) s := by
  refine ⟨_, rfl, ?_⟩
  split
  · exact (drive_pending _).trans (judgingOnly_removeJudgements ..).pending
  · rfl

/-! ### Deadlines -/

theorem standingEnd (d : DeskId) : KeepsQueue (.standingEnd d) s := by
  refine ⟨_, rfl, ?_⟩
  split <;> rfl

theorem soundingEnd (n : BitVec 16) : KeepsQueue (.soundingEnd n) s := by
  refine ⟨_, rfl, ?_⟩
  split
  · exact (lanesOnly_driveLane ..).pending
  · rfl

theorem guardEnd (g : GroupId) : KeepsQueue (.guardEnd g) s := by
  refine ⟨_, rfl, ?_⟩
  split
  · exact (lanesOnly_takeGuardEnd ..).pending
  · rfl

end KeepsQueue

/-- The commands of the two lines and POWER_ON_RESET write the queue back as it was; the others come to operations that leave it. -/
theorem exec_keepsQueue (c : Instr) (s : State) : KeepsQueue c s := by
  cases c with
  | powerOnReset | deskAddressByte | deskWriteByte | deskRepeatedStartWrite | deskStopCondition | deskReplyByte
  | deskReplyDeclined | serviceByte | frameTimeout | replySent => exact ⟨_, rfl, rfl⟩
  | hold | issue | confirm | cancel | discharge | query | load => exact ⟨_, rfl, (portsOnly_serveItems ..).pending⟩
  | confirmBatch | cancelBatch => exact ⟨_, rfl, (portsOnly_serveBatch ..).pending⟩
  | walk | clearTable =>
    refine ⟨_, rfl, serve_pending .link fun src kind r t answer => ?_⟩
    split at answer <;> cases answer
    exact ((portsOnly_offerClaim ..).trans (portsOnly_setWork ..)).pending
  | standing => exact ⟨_, rfl, (carried_serveStanding s).pending⟩
  | endStanding => exact ⟨_, rfl, (carried_serveEndStanding s).pending⟩
  | ackLane p => exact ⟨_, rfl, serveAckLane_pending s p⟩
  | restartLane p => exact ⟨_, rfl, serveRestartLane_pending s p⟩
  | badRequest p => exact .badRequest s p
  | restart => exact .restart s
  | setHall | setWindow | setRights | readAlarms =>
    refine .of_serveLink rfl fun kind r t answer => ?_
    split at answer
    · split at answer <;> cases answer <;> rfl
    · cases answer
  | readStatus | clearLog | readNotices =>
    refine .of_serveLink rfl fun kind r t answer => ?_
    split at answer <;> cases answer
    rfl
  | setLane => exact .setLane s
  | enableLane => exact .enableLane s
  | disableLane => exact .disableLane s
  | readLane => exact .readLane s
  | clearCounts => exact .clearCounts s
  | ackAlarm => exact .ackAlarm s
  | holdClaim | cancelClaim | dischargeClaim | queryClaim | loadClaim => exact ⟨_, rfl, (claimOnly_takeItemClaim ..).pending⟩
  | issueClaim | confirmClaim => exact ⟨_, rfl, (drive_pending _).trans (claimOnly_takeItemClaim ..).pending⟩
  | confirmBatchClaim | cancelBatchClaim => exact ⟨_, rfl, (claimOnly_takeBatchClaim ..).pending⟩
  | walkClaim => exact ⟨_, rfl, (claimOnly_takeWalkClaim s).pending⟩
  | clearTableClaim => exact ⟨_, rfl, (claimOnly_takeClearTableClaim s).pending⟩
  | judge => exact ⟨_, rfl, takeJudgeClaim_pending s⟩
  | dueTimeReached => exact ⟨_, rfl, (portsOnly_offerExpiry s).pending⟩
  | expiryClaim => exact ⟨_, rfl, (claimOnly_takeExpiryClaim s).pending⟩
  | standingEnd d => exact .standingEnd s d
  | soundingEnd n => exact .soundingEnd s n
  | guardEnd g => exact .guardEnd s g
  | graceEnd i => exact .graceEnd s i
  | identReply l h m => exact .identReply s l h m
  | roundReport l h m => exact .roundReport s l h m
  | probeReport l h m => exact .probeReport s l h m
  | headMessageDiscarded l h m => exact .headMessageDiscarded s l h m
  | roundTimeout l h => exact .roundTimeout s l h
  | abort l h => exact ⟨_, rfl, (lanesOnly_sendAbort s l h).pending⟩
  | cycleReport l => exact .cycleReport s l
  | passage l => exact .passage s l
  | verdict l => exact .verdict s l
  | judgeAnswer => exact .judgeAnswer s
  | changeNotice => exact .changeNotice s
  | probeResult l => exact ⟨_, rfl, (drive_pending _).trans (judgingOnly_takeProbeResult s l).pending⟩
  | passageRemovalReport l => exact .passageRemovalReport s l

end Sys2Proof.Machine

/-! # Every command answers, settled -/

namespace Sys2Proof.Proofs

open Sys2Proof Sys2Proof.Machine

/-- Settles O3: each of the 71 commands comes to operations whose frames leave the queue out. -/
theorem everyCommandAnswersANextState : Obligations.EveryCommandAnswersANextState := by
  unfold Obligations.EveryCommandAnswersANextState
  exact exec_keepsQueue

end Sys2Proof.Proofs
